-- ==== Sys2Proof/Word.lean ====
section
/-! DEFINITION. The word types of the 6H80: bytes of a cell, 4-byte slots of an entry image, headset times and wrapping counts. -/

namespace Sys2Proof

/-- A byte of a cell or of the stacked DRAM. -/
abbrev Byte := BitVec 8

/-- A 4-byte slot of an entry image (R172). -/
abbrev Slot := BitVec 32

/-- A headset time: a 32-bit count of microseconds that wraps (R1). -/
abbrev Time := BitVec 32

/-- A 32-bit count that wraps (R9, R57, R62, R124, R133). -/
abbrev Count := BitVec 32

/-- A set of the 21 event kinds, one mark per kind, bit k for kind k (R157). -/
abbrev EventSet := BitVec 21

end Sys2Proof
end

