-- ==== Sys2Proof/Syntax.lean ====
section
/-! DEFINITION. The commands of the 6H80: one constructor of `Instr` for each row of spec/opcode_table.json. -/

namespace Sys2Proof

/-- The two scan groups of the Sense Engine (1.4). -/
inductive ScanGroup
  | fast
  | slow
  deriving DecidableEq, Repr

/-- An eye, and the panel that shows it (R44, R61). -/
inductive Eye
  | left
  | right
  deriving DecidableEq, Repr

/-- The six raw values a burst holds: gyro X, Y, Z, then accelerometer X, Y, Z (R3), sources 0 to 5 of Table 1-1. -/
structure SixAxes where
  gyroX : BitVec 16
  gyroY : BitVec 16
  gyroZ : BitVec 16
  accelX : BitVec 16
  accelY : BitVec 16
  accelZ : BitVec 16
  deriving DecidableEq, Repr

/-- A command. A cell's command carries the fields of its payload (Table 11-3) and its stream. A management service carries
nothing: it serves the oldest request of the request queue (R144). -/
inductive Instr
  -- resets, link and clocks
  | powerOnReset
  | reset (stream : Fin 32)
  | holdExpiry
  /-- `cut` holds the bytes so far of the cell that was being framed, none when no cell was (R117). -/
  | clockAbsent (cut : List Byte)
  | clockReturn
  | clockLossExpiry
  | crystalAbsent
  | crystalReturn
  | crystalLossExpiry
  /-- `framed` holds the bytes of the cell's extent (R116). -/
  | cellDiscarded (framed : List Byte)
  | fill (stream : Fin 32)
  -- picture
  | picOpen (stream : Fin 32) (frame : BitVec 16) (flags : Byte) (renderTime : Time)
  | picBand (stream : Fin 32) (frame : BitVec 16) (eye : Byte) (band : Byte) (rows : List Byte)
  | picClose (stream : Fin 32) (frame : BitVec 16)
  | bandWriteComplete (slot : Fin 3)
  -- sound
  | sound (stream : Fin 32) (pairs : List (BitVec 24 × BitVec 24))
  -- management
  | ask (stream : Fin 32) (tag : Byte) (op : Byte) (operands : List Byte)
  | read
  | readSnapshot
  | write
  | writeStreams
  | writeChannels
  | writeGroups
  | writePanels
  | writeScanout
  | writeAudio
  | writeReport
  | writeStances
  | writeStanceLimits
  | writeRules
  | descRead
  | eventsClear
  | eventsEnable
  | eventsDisable
  | eventsInject
  | gate
  | lockLive
  | groupStart
  | groupStop
  | rangeClear
  | extremesClear
  | stanceOrder
  | countersClear
  -- sensing
  | scanTrigger (group : ScanGroup)
  | burstComplete (raw : SixAxes)
  | conversionComplete (raw : BitVec 12)
  | ageExpiry
  -- scanout, sound ticks, power, upstream
  | frameLatch
  | panelReady (eye : Eye)
  | powerDownComplete (eye : Eye)
  | outputTick
  | slipCheck
  | microphoneSample (sample : BitVec 16)
  | stanceCheck
  | cellBoundary
  deriving DecidableEq, Repr

end Sys2Proof
end

