-- ==== Sys2Proof/WellFormed.lean ====
section
/-! DEFINITION. When a command's operands are such as a good cell can carry: the length field of R168 and the length rules of R169. A cell command that breaks them is taken as the receiver takes such a cell, a runt (log 25). -/

namespace Sys2Proof

/-- A PIC_BAND's payload, its four fixed bytes included, fits the 24-bit length field (R168). R169 bounds it from below alone; the
length that its band expects is judged by the receiver's step 6 (R122). -/
def bandRowsFit (rows : List Byte) : Bool := rows.length + 4 < 2 ^ 24

/-- A SOUND cell carries 1 to 128 pairs: a length that is a multiple of 6 from 6 to 768 (R169). -/
def soundPairsFit (pairs : List (BitVec 24 × BitVec 24)) : Bool := 1 ≤ pairs.length && pairs.length ≤ 128

/-- An ASK's payload, tag and operation included, fits the 24-bit length field (R168). -/
def askOperandsFit (operands : List Byte) : Bool := operands.length + 2 < 2 ^ 24

/-- The operands of a command are such as a good cell can carry. -/
def Instr.wellFormed : Instr → Bool
  | .picBand _ _ _ _ rows => bandRowsFit rows
  | .sound _ pairs => soundPairsFit pairs
  | .ask _ _ _ operands => askOperandsFit operands
  | .powerOnReset | .reset _ | .holdExpiry | .clockAbsent _ | .clockReturn | .clockLossExpiry
  | .crystalAbsent | .crystalReturn | .crystalLossExpiry | .cellDiscarded _ | .fill _
  | .picOpen _ _ _ _ | .picClose _ _ | .bandWriteComplete _
  | .read | .readSnapshot | .write | .writeStreams | .writeChannels | .writeGroups | .writePanels
  | .writeScanout | .writeAudio | .writeReport | .writeStances | .writeStanceLimits | .writeRules
  | .descRead | .eventsClear | .eventsEnable | .eventsDisable | .eventsInject | .gate | .lockLive
  | .groupStart | .groupStop | .rangeClear | .extremesClear | .stanceOrder | .countersClear
  | .scanTrigger _ | .burstComplete _ | .conversionComplete _ | .ageExpiry | .frameLatch
  | .panelReady _ | .powerDownComplete _ | .outputTick | .slipCheck | .microphoneSample _
  | .stanceCheck | .cellBoundary => true

end Sys2Proof
end

