-- ==== Sys2Proof/Decode.lean ====
section
/-! DEFINITION. From bits to commands: the host's table-word decoder (no row of the table gives bits), and the downstream cell formats of chapter 11 with the checks the Tether Receiver makes on bytes alone (R122 steps 1 to 5). -/

namespace Sys2Proof

/-- No row of spec/opcode_table.json gives bits: no word spells a command. -/
def decodeTableWord (_nbits _w : Nat) : Option Instr := none

/-! ### Byte order (chapter 11's opening: least significant byte first) -/

/-- The `k` bytes of a quantity, least significant first. -/
def le : Nat → Nat → List Byte
  | 0, _ => []
  | k + 1, v => BitVec.ofNat 8 v :: le k (v / 256)

/-- The quantity that bytes stand for, least significant first. -/
def ofLe : List Byte → Nat
  | [] => 0
  | b :: bs => b.toNat + 256 * ofLe bs

/-! ### The header check and the payload check (R168, R169) -/

/-- One right shift of a check register, combined with the polynomial when the bit shifted out was 1. -/
def checkShift {w : Nat} (poly r : BitVec w) : BitVec w :=
  if r.getLsbD 0 then (r >>> 1) ^^^ poly else r >>> 1

/-- A byte taken into a check register: combined into its low byte, then eight shifts. -/
def checkByte {w : Nat} (poly r : BitVec w) (b : Byte) : BitVec w :=
  (checkShift poly)^[8] (r ^^^ b.setWidth w)

/-- The header check over header bytes 0 to 6 (R168). -/
def headerCheck (bytes : List Byte) : Byte := ~~~(bytes.foldl (checkByte 0xE0#8) 0xFF#8)

/-- The payload check over the payload bytes (R169). -/
def payloadCheck (bytes : List Byte) : BitVec 32 := ~~~(bytes.foldl (checkByte 0xEDB88320#32) 0xFFFFFFFF#32)

/-- A cell of kind code `kind` on stream `stream` (R167, R169): header with its check, then the payload and its check unless
the payload is empty. Both lanes use this form. -/
def cellBytes (kind stream : Nat) (payload : List Byte) : List Byte :=
  let head := BitVec.ofNat 8 kind :: BitVec.ofNat 8 stream :: (le 3 payload.length ++ [0#8, 0#8])
  let tail := if payload.isEmpty then [] else payload ++ le 4 (payloadCheck payload).toNat
  head ++ [headerCheck head] ++ tail

/-! ### Downstream cells (R167 to R170) -/

/-- The seven downstream kinds of Table 11-2. -/
inductive DownKind
  | fill
  | picOpen
  | picBand
  | picClose
  | sound
  | ask
  | reset
  deriving DecidableEq, Repr

/-- The kind that a downstream kind code names (Table 11-2). -/
def downKind (code : Byte) : Option DownKind :=
  match code.toNat with
  | 0 => some .fill
  | 1 => some .picOpen
  | 2 => some .picBand
  | 3 => some .picClose
  | 4 => some .sound
  | 5 => some .ask
  | 6 => some .reset
  | _ => none

/-- The length rule of a kind (R169). -/
def lengthRule (kind : DownKind) (len : Nat) : Bool :=
  match kind with
  | .picOpen => len == 8
  | .picClose => len == 2
  | .picBand => 4 ≤ len
  | .sound => len % 6 == 0 && 6 ≤ len && len ≤ 768
  | .ask => 2 ≤ len
  | .reset | .fill => len == 0

/-- The four discard counters of Table 7-3. -/
inductive Discard
  | badHeader
  | unknownKind
  | runt
  | badPayload
  deriving DecidableEq, Repr

/-- The pairs of a SOUND payload: each 3 + 3 bytes, left then right (Table 11-3). -/
def pairsOfBytes : List Byte → Option (List (BitVec 24 × BitVec 24))
  | [] => some []
  | a :: b :: c :: d :: e :: f :: rest =>
    (pairsOfBytes rest).map ((BitVec.ofNat 24 (ofLe [a, b, c]), BitVec.ofNat 24 (ofLe [d, e, f])) :: ·)
  | _ => none

/-- The bytes of SOUND pairs (Table 11-3). -/
def bytesOfPairs (pairs : List (BitVec 24 × BitVec 24)) : List Byte :=
  pairs.flatMap fun p => le 3 p.1.toNat ++ le 3 p.2.toNat

/-- The command that a downstream cell's payload spells (Table 11-3, R171). A payload that keeps its kind's length rule always spells one. -/
def payloadCommand (kind : DownKind) (stream : Fin 32) (payload : List Byte) : Option Instr :=
  match kind, payload with
  | .fill, [] => some (.fill stream)
  | .reset, [] => some (.reset stream)
  | .picOpen, [f0, f1, flags, _, t0, t1, t2, t3] =>
    some (.picOpen stream (BitVec.ofNat 16 (ofLe [f0, f1])) flags (BitVec.ofNat 32 (ofLe [t0, t1, t2, t3])))
  | .picBand, f0 :: f1 :: eye :: band :: rows => some (.picBand stream (BitVec.ofNat 16 (ofLe [f0, f1])) eye band rows)
  | .picClose, [f0, f1] => some (.picClose stream (BitVec.ofNat 16 (ofLe [f0, f1])))
  | .sound, bytes => (pairsOfBytes bytes).map (.sound stream)
  | .ask, tag :: op :: operands => some (.ask stream tag op operands)
  | _, _ => none

/-- Steps 1 to 5 of the receiver's checks (R122, Table 7-3) on the bytes of a cell's extent: the counter of the first check the
cell fails, or the command of the cell. Bytes past the cell's stated end are idle (R116). An extent cut inside the header counts
as a bad header: DESIGN CHOICE, log 5. -/
def receiveBytes (framed : List Byte) : Except Discard Instr :=
  match framed with
  | k :: st :: l0 :: l1 :: l2 :: z0 :: z1 :: hc :: rest =>
    if headerCheck [k, st, l0, l1, l2, z0, z1] ≠ hc then .error .badHeader
    else
      match downKind k with
      | none => .error .unknownKind
      | some kind =>
        if hs : st.toNat < 32 then
          if z0 ≠ 0#8 ∨ z1 ≠ 0#8 then .error .unknownKind
          else
            let len := ofLe [l0, l1, l2]
            if !lengthRule kind len then .error .runt
            else if rest.length < (if len = 0 then 0 else len + 4) then .error .runt
            else
              let payload := rest.take len
              if len ≠ 0 ∧ ofLe ((rest.drop len).take 4) ≠ (payloadCheck payload).toNat then .error .badPayload
              else
                match payloadCommand kind ⟨st.toNat, hs⟩ payload with
                | some c => .ok c
                | none => .error .runt
        else .error .unknownKind
  | _ => .error .badHeader

/-- The bytes of the cell that a cell command stands for; none for a command that is no cell. -/
def encodeCell : Instr → Option (List Byte)
  | .fill stream => some (cellBytes 0 stream.val [])
  | .picOpen stream frame flags renderTime =>
    some (cellBytes 1 stream.val (le 2 frame.toNat ++ [flags, 0#8] ++ le 4 renderTime.toNat))
  | .picBand stream frame eye band rows => some (cellBytes 2 stream.val (le 2 frame.toNat ++ [eye, band] ++ rows))
  | .picClose stream frame => some (cellBytes 3 stream.val (le 2 frame.toNat))
  | .sound stream pairs => some (cellBytes 4 stream.val (bytesOfPairs pairs))
  | .ask stream tag op operands => some (cellBytes 5 stream.val (tag :: op :: operands))
  | .reset stream => some (cellBytes 6 stream.val [])
  | _ => none

end Sys2Proof
end

