-- ==== Sys2Proof/Config.lean ====
section
/-! DEFINITION. What the world outside the part presents on its sensor pins while the part runs by itself: free values, without a body (log 18). A command that carries raw values does not use them. -/

namespace Sys2Proof

/-- The raw value of motion axis `axis` (0 to 5, Table 1-1) in a burst begun at the given time (R3). DESIGN CHOICE, log 18: nothing constrains it. -/
opaque Config.motionPin : Fin 6 → Time → BitVec 16

/-- The raw value of an analog source (6 to 14, Table 1-1) in a conversion begun at the given time (R4). DESIGN CHOICE, log 18. -/
opaque Config.analogPin : Fin 16 → Time → BitVec 12

/-- The decimated microphone sample of the tick at the given time (R94). DESIGN CHOICE, log 18. -/
opaque Config.microphonePin : Time → BitVec 16

end Sys2Proof
end

