-- ==== Sys2Proof/Machine/State.lean ====
section
/-! DEFINITION. The state of the 6H80 as plain data, block by block in the order of Table 0-1, the queue of waiting commands, the state after power-on reset, and the reasons a step can stop. -/

namespace Sys2Proof.Machine

/-! ### Clock Supervisor and headset time (R1, R128) -/

/-- The clock source (R128). -/
inductive ClockSource
  | crystal
  | fallback
  deriving DecidableEq, Repr

structure Clock where
  /-- the headset time counter (R1) -/
  now : Time
  source : ClockSource
  /-- the crystal input delivers transitions (R128) -/
  crystalPresent : Bool
  /-- the crystal watch: microseconds of the internal oscillator since the crystal stopped (R128); none while it is idle -/
  watch : Option Nat
  deriving DecidableEq, Repr

/-! ### Tether Receiver (chapter 7) -/

/-- The link states of R118. -/
inductive LinkState
  | down
  | training
  | up
  | lost
  deriving DecidableEq, Repr

/-- The link counters of Table 7-4. -/
structure LinkCounters where
  handedOn : Count
  badHeader : Count
  unknownKind : Count
  runt : Count
  badPayload : Count
  losses : Count
  recoveries : Count
  holdExpiries : Count
  deriving DecidableEq, Repr

structure Link where
  state : LinkState
  goodRun : Nat
  badRun : Nat
  /-- the downstream lane's line code delivers transitions (R117) -/
  clockPresent : Bool
  /-- the clock-loss timer: microseconds since the recovered clock stopped (R117); none while it is stopped -/
  clockLoss : Option Nat
  /-- the hold timer: the headset time it runs out at (R119); none while it is stopped -/
  hold : Option Time
  counters : LinkCounters
  deriving DecidableEq, Repr

/-! ### Reset logic (R131) -/

inductive ResetKind
  | powerOn
  | tether
  | linkLoss
  deriving DecidableEq, Repr

/-- The Cause record (R131). -/
structure Cause where
  kind : ResetKind
  fallback : Bool
  deriving DecidableEq, Repr

/-! ### Stream Filter (R133) -/

inductive Accepts
  | none
  | picture
  | sound
  | ask
  deriving DecidableEq, Repr

inductive Sink
  | a
  | b
  deriving DecidableEq, Repr

inductive Access
  | full
  | limited
  deriving DecidableEq, Repr

/-- A Stream Table entry (Table 8-1). -/
structure StreamEntry where
  enabled : Bool
  accepts : Accepts
  sink : Sink
  access : Access
  accepted : Count
  discarded : Count
  deriving DecidableEq, Repr

/-! ### Management Unit (chapter 9) -/

/-- A request of the request queue (R142): the stream, the tag, the operation code and the operand bytes as they stand. -/
structure Request where
  stream : Fin 32
  tag : Byte
  op : Byte
  operands : List Byte
  deriving DecidableEq, Repr

inductive Status
  | done
  | busy
  | refused
  deriving DecidableEq, Repr

/-- The seven reasons of Table 9-1. -/
inductive Reason
  | access
  | unknown
  | readOnly
  | locked
  | align
  | range
  | conflict
  deriving DecidableEq, Repr

/-- An answer of the answer queue (R143). The value area is a list of 4-byte slots (R172; a DESC_READ's length is a multiple of 4, R155). -/
structure Answer where
  stream : Fin 32
  tag : Byte
  status : Status
  reason : Option Reason
  field : Option Nat
  value : List Slot
  deriving DecidableEq, Repr

/-- The pending stance answer (R153). -/
structure Deferred where
  stream : Fin 32
  tag : Byte
  deriving DecidableEq, Repr

structure Mgmt where
  requests : List Request
  answers : List Answer
  /-- the pending stance answer; the reservation mark is set exactly while it is present (R143, R153) -/
  deferred : Option Deferred
  deriving DecidableEq, Repr

/-! ### Event Unit (chapter 10) -/

/-- The twenty-one event kinds, in the order of Table 10-1. -/
inductive EventKind
  | resetDone
  | linkRecovered
  | cellErrors
  | clockFallback
  | requestOverrun
  | frameDiscarded
  | frameTurnedAway
  | frameAbandoned
  | pictureStarved
  | poseStale
  | shiftClamped
  | gyroGap
  | scanOverrun
  | snapshotReady
  | sampleQueueFull
  | rangeAlarm
  | monitorStale
  | stanceChanged
  | playoutUnderrun
  | playoutOverflow
  | captureOverflow
  deriving DecidableEq, Repr

structure Events where
  raised : EventSet
  enabled : EventSet
  gateOpen : Bool
  lock : Bool
  /-- the NOTICE slot is ready (R163) -/
  notice : Bool
  deriving DecidableEq, Repr

/-! ### Frame Store (chapter 3) -/

inductive SlotPhase
  | empty
  | filling
  | closing
  | ready
  | showing
  deriving DecidableEq, Repr

/-- A frame slot's record (R41), but for its writes outstanding, which are the writes in flight into it. -/
structure FrameSlot where
  phase : SlotPhase
  frame : Option (BitVec 16)
  renderTime : Option Time
  noShift : Bool
  /-- band indices received, rising -/
  left : List Nat
  /-- band indices received, rising -/
  right : List Nat
  repeats : Nat
  deriving DecidableEq, Repr

/-- A band write in flight (R48): `place` is the DRAM address of its first byte. -/
structure BandWrite where
  slot : Fin 3
  eye : Eye
  band : Nat
  frame : BitVec 16
  place : Nat
  rows : List Byte
  deriving DecidableEq, Repr

/-- The stacked DRAM: the bytes that hold a value, addresses strictly rising (log 12). -/
abbrev Memory := List Host.Cell

structure FrameStore where
  slots : Vector FrameSlot 3
  /-- band writes in flight, oldest first -/
  writes : List BandWrite
  superseded : Count
  dram : Memory
  deriving DecidableEq, Repr

/-! ### Scanout Unit (chapter 4) -/

inductive PanelPower
  | off
  | starting
  | on
  | stopping
  deriving DecidableEq, Repr

/-- The window of a refresh that shows a frame (R78). -/
structure Window where
  slot : Fin 3
  column : Int
  row : Int
  deriving DecidableEq, Repr

/-- A Panel Table record (Table 4-1) with the panel's present state (R64). -/
structure Panel where
  width : Nat
  height : Nat
  marginH : Nat
  marginV : Nat
  kH : Nat
  kV : Nat
  shiftEnable : Bool
  repeatLimit : Nat
  setpoint : Nat
  power : PanelPower
  /-- the end of the power sequence in flight (R66); of no meaning while OFF or ON -/
  seqEnd : Time
  dx : Int
  dy : Int
  shown : Nat
  starved : Bool
  /-- the window of the present refresh, none while the panel shows black or is not ON (R71) -/
  window : Option Window
  deriving DecidableEq, Repr

/-- The refresh codes of Table 4-2. -/
inductive RefreshCode
  | hz72
  | hz80
  | hz90
  | hz120
  | hz144
  deriving DecidableEq, Repr

structure Scanout where
  left : Panel
  right : Panel
  enable : Bool
  refresh : RefreshCode
  latchCount : Count
  /-- the latch timer: the headset time of the next latch (R68); none while it is stopped -/
  latchDue : Option Time
  deriving DecidableEq, Repr

/-! ### Sense Engine (chapter 1) -/

inductive GroupField
  | none
  | fast
  | slow
  deriving DecidableEq, Repr

inductive Role
  | none
  | yaw
  | pitch
  deriving DecidableEq, Repr

inductive RangeMode
  | off
  | outside
  | inside
  deriving DecidableEq, Repr

/-- A channel slot (Table 1-2); source NONE is `none`. -/
structure Channel where
  source : Option (Fin 16)
  group : GroupField
  role : Role
  report : Bool
  offset : Int
  gain : Nat
  rangeMode : RangeMode
  lower : Int
  upper : Int
  persist : Nat
  deriving DecidableEq, Repr

inductive Side
  | none
  | above
  | below
  | within
  deriving DecidableEq, Repr

/-- Per-slot sample state (Table 1-3). -/
structure SampleState where
  value : Int
  time : Time
  valid : Bool
  min : Int
  max : Int
  extremesValid : Bool
  run : Nat
  alarm : Bool
  sticky : Bool
  side : Side
  deriving DecidableEq, Repr

inductive ScanMode
  | once
  | continuous
  | step
  deriving DecidableEq, Repr

inductive Trigger
  | timer
  | latch
  | order
  deriving DecidableEq, Repr

inductive GroupPhase
  | stopped
  | armed
  | passing
  | held
  deriving DecidableEq, Repr

/-- The TIMER schedule of a running group (R12): the first trigger comes at the time of the start, each later one the effective
period after the last. -/
inductive TimerSchedule
  | first (start : Time)
  | after (last : Time)
  deriving DecidableEq, Repr

/-- The six values a pass holds from its burst, and the burst's start time (R13, R14). -/
structure HeldBurst where
  raw : SixAxes
  time : Time
  deriving DecidableEq, Repr

/-- A pass in flight: `todo` begins with the slot the pass stands at (R13, R14). -/
structure Pass where
  start : Option Time
  todo : List (Fin 16)
  burst : Option HeldBurst
  deriving DecidableEq, Repr

/-- A scan group: its record and its state (R9, R10). -/
structure Group where
  mode : ScanMode
  trigger : Trigger
  period : Nat
  hold : Bool
  phase : GroupPhase
  passes : Count
  timer : Option TimerSchedule
  pass : Option Pass
  deriving DecidableEq, Repr

/-- A burst or conversion in flight: the group it serves and its start time (R3, R4). -/
structure InFlight where
  owner : ScanGroup
  start : Time
  deriving DecidableEq, Repr

structure SnapshotEntry where
  slot : Fin 16
  value : Int
  valid : Bool
  deriving DecidableEq, Repr

/-- The Snapshot record (R24). -/
structure Snapshot where
  start : Time
  entries : List SnapshotEntry
  taken : Bool
  deriving DecidableEq, Repr

structure Sense where
  channels : Vector Channel 16
  samples : Vector SampleState 16
  fast : Group
  slow : Group
  port : Option InFlight
  converter : Option InFlight
  snapshot : Snapshot
  deriving DecidableEq, Repr

/-! ### Report Assembler and Pose Integrator (chapter 2) -/

/-- A Sample Queue entry (R26). -/
structure SampleEntry where
  slot : Fin 16
  value : Int
  time : Time
  deriving DecidableEq, Repr

structure Report where
  threshold : Nat
  ageLimit : Nat
  queue : List SampleEntry
  gap : Nat
  filling : Bool
  /-- the age expiry of the head entry has occurred (R30) -/
  expired : Bool
  deriving DecidableEq, Repr

/-- A pose history entry (R38). -/
structure PoseEntry where
  time : Time
  yaw : BitVec 48
  pitch : BitVec 48
  deriving DecidableEq, Repr

structure Pose where
  yaw : BitVec 48
  pitch : BitVec 48
  prev : Option Time
  /-- oldest first (R38) -/
  history : List PoseEntry
  deriving DecidableEq, Repr

/-! ### Sound Unit (chapter 5) -/

/-- The AUDIO record (Table 5-1). -/
structure AudioRecord where
  startA : Nat
  startB : Nat
  slipLow : Nat
  slipHigh : Nat
  gainA : Nat
  gainB : Nat
  masterGain : Nat
  captureGain : Nat
  captureEnable : Bool
  deriving DecidableEq, Repr

inductive PlayPhase
  | idle
  | priming
  | playing
  deriving DecidableEq, Repr

/-- A stereo pair of 24-bit sample values (R82). -/
structure SoundPair where
  left : Int
  right : Int
  deriving DecidableEq, Repr

/-- A playout queue (R82). -/
structure Playout where
  phase : PlayPhase
  pairs : List SoundPair
  fade : Nat
  last : Option SoundPair
  hold : Bool
  deriving DecidableEq, Repr

/-- A Capture Queue entry (R95). -/
structure CaptureEntry where
  sample : Int
  time : Time
  deriving DecidableEq, Repr

/-- A 48 kHz schedule: the whole microsecond of its next event, and the sixths of a microsecond past it (R85, R94). -/
structure Rate48 where
  due : Time
  sixths : Nat
  deriving DecidableEq, Repr

structure Sound where
  audio : AudioRecord
  queueA : Playout
  queueB : Playout
  tickCount : Nat
  /-- the tick just taken had a number that is a multiple of 480, and its slip check has not been made (R88) -/
  slipDue : Bool
  tick : Rate48
  mic : Rate48
  capture : List CaptureEntry
  captureGap : Nat
  captureFilling : Bool
  /-- the pair last given to the headphone converter (R90) -/
  output : SoundPair
  deriving DecidableEq, Repr

/-! ### Power Unit (chapter 6) -/

/-- The four stances, from least to most restrictive (R99). -/
inductive Stance
  | full
  | reduced
  | minimal
  | standby
  deriving DecidableEq, Repr

/-- A Stance Table record (Table 6-1). -/
structure StanceRecord where
  cap : Nat
  floor : Nat
  fastFloor : Nat
  panels : Bool
  sound : Bool
  voice : Bool
  fast : Bool
  deriving DecidableEq, Repr

/-- A Rule Table record (R103). -/
structure Rule where
  enabled : Bool
  slot : Fin 16
  ceiling : Stance
  deriving DecidableEq, Repr

/-- The ramp record (R99, R107). -/
structure Ramp where
  startCap : Nat
  startFloor : Nat
  goalCap : Nat
  goalFloor : Nat
  n : Nat
  j : Nat
  deriving DecidableEq, Repr

structure Power where
  stances : Vector StanceRecord 4
  staleLimit : Nat
  rampTime : Nat
  rules : Vector Rule 8
  ordered : Stance
  inEffect : Stance
  /-- the change state is CHANGING exactly while a ramp record is present (R99) -/
  ramp : Option Ramp
  cap : Nat
  floor : Nat
  /-- active mark of rule k in bit k (R104) -/
  active : BitVec 8
  /-- stale mark of rule k in bit k (R104) -/
  stale : BitVec 8
  checkDue : Time
  deriving DecidableEq, Repr

/-! ### Upstream Sender (7.5) -/

inductive CyclicClass
  | voice
  | answer
  | notice
  deriving DecidableEq, Repr

/-- An entry of a MOTION cell (R32). -/
structure MotionEntry where
  slot : Fin 16
  value : Int
  offset : Nat
  deriving DecidableEq, Repr

/-- An upstream cell (Table 11-4). -/
inductive UpCell
  | fill
  | motion (base : Time) (gap : Nat) (entries : List MotionEntry)
  | voice (first : Time) (gap : Nat) (samples : List Int)
  | answer (a : Answer)
  | notice (kinds : EventSet)
  deriving DecidableEq, Repr

structure Sender where
  last : CyclicClass
  /-- the cell on the wire; none while the lane carries the idle pattern (R125) -/
  wire : Option UpCell
  deriving DecidableEq, Repr

/-! ### The whole part -/

structure State where
  /-- the commands that are waiting, first in first out -/
  pending : List Instr
  clock : Clock
  link : Link
  cause : Cause
  streams : Vector StreamEntry 32
  mgmt : Mgmt
  events : Events
  frames : FrameStore
  scanout : Scanout
  sense : Sense
  report : Report
  pose : Pose
  sound : Sound
  power : Power
  sender : Sender
  deriving DecidableEq, Repr

/-- The reasons the part can stop with a fault: none. Every discard, refusal answer and loss the manual names leaves the part
running (INVENTORY.md, Faults). -/
inductive Fault
  deriving DecidableEq, Repr

/-- The reasons a command can have no meaning. -/
inductive Refusal
  /-- raised by `exec`'s arm of a command that has no meaning yet, and by nothing else; safe, since such a command changes nothing -/
  | notModelled (mnemonic : String)
  deriving DecidableEq, Repr

/-! ### The default records (the values a power-on and a tether reset give) -/

/-- All link counters 0 (R124). -/
def LinkCounters.zero : LinkCounters := ⟨0, 0, 0, 0, 0, 0, 0, 0⟩

/-- The Stream Table's defaults (Table 8-1). -/
def defaultStream (i : Fin 32) : StreamEntry :=
  if i = 0 then ⟨true, .ask, .a, .full, 0, 0⟩ else ⟨false, .none, .a, .limited, 0, 0⟩

/-- An EMPTY frame slot (R43). -/
def FrameSlot.emptied : FrameSlot := ⟨.empty, none, none, false, [], [], 0⟩

/-- A panel at its defaults and OFF (Table 4-1, R64, R67). -/
def Panel.default : Panel := ⟨2048, 2048, 64, 64, 0, 0, false, 2, 512, .off, 0, 0, 0, 0, false, none⟩

/-- The Scanout Unit after a power-on or tether reset (R64, R67). -/
def Scanout.default : Scanout := ⟨Panel.default, Panel.default, false, .hz90, 0, none⟩

/-- The default record of a slot that Table 1-4 does not list (R7). -/
def Channel.default : Channel := ⟨none, .none, .none, false, 0, 4096, .off, 0, 0, 1⟩

/-- The Channel Table's defaults (R7, Table 1-4). -/
def defaultChannel (k : Fin 16) : Channel :=
  match k with
  | 8 => ⟨some 6, .slow, .none, false, 0, 20480, .outside, 9000, 13500, 3⟩
  | 9 => ⟨some 7, .slow, .none, false, 0, 4096, .off, 0, 0, 1⟩
  | 10 => ⟨some 8, .slow, .none, false, 0, 20480, .off, 0, 0, 1⟩
  | 11 => ⟨some 14, .slow, .none, false, -1093, 10240, .outside, -400, 1050, 3⟩
  | _ => Channel.default

/-- Cleared sample state (R7). -/
def SampleState.cleared : SampleState := ⟨0, 0, false, 0, 0, false, 0, false, false, .none⟩

/-- FAST after a power-on or tether reset: its default record (R9), STOPPED (R19). -/
def Group.fastDefault : Group := ⟨.continuous, .timer, 1000, false, .stopped, 0, none, none⟩

/-- SLOW after a power-on or tether reset at time `t`: its default record (R9), ARMED as if started then (R19). -/
def Group.slowDefault (t : Time) : Group := ⟨.continuous, .timer, 10000, false, .armed, 0, some (.first t), none⟩

/-- The emptied Snapshot record (R24). -/
def Snapshot.emptied : Snapshot := ⟨0, [], true⟩

/-- The Sense Engine after a power-on or tether reset at time `t` (R7, R9, R19, R24). -/
def Sense.default (t : Time) : Sense :=
  ⟨Vector.ofFn defaultChannel, Vector.replicate 16 SampleState.cleared, Group.fastDefault, Group.slowDefault t, none, none,
    Snapshot.emptied⟩

/-- The Report Assembler after a power-on or tether reset (R28, R29). -/
def Report.default : Report := ⟨12, 1000, [], 0, false, false⟩

/-- The Pose Integrator after any reset (R34). -/
def Pose.cleared : Pose := ⟨0, 0, none, []⟩

/-- The AUDIO record's defaults (Table 5-1). -/
def AudioRecord.default : AudioRecord := ⟨256, 256, 128, 768, 0, 0, 12, 0, false⟩

/-- An emptied playout queue (R93, R98). -/
def Playout.emptied : Playout := ⟨.idle, [], 0, none, false⟩

/-- Silence at the headphone converter (R92). -/
def SoundPair.silent : SoundPair := ⟨0, 0⟩

/-- The first event of a 48 kHz schedule that starts at time 0, 20 5/6 µs later. DESIGN CHOICE, log 9. -/
def Rate48.start : Rate48 := ⟨20, 5⟩

/-- The Stance Table's defaults (Table 6-2). -/
def defaultStances : Vector StanceRecord 4 :=
  #v[⟨1023, 0, 0, true, true, true, true⟩, ⟨700, 6, 1000, true, true, true, true⟩,
    ⟨300, 20, 4000, true, true, false, true⟩, ⟨0, 192, 0, false, false, false, false⟩]

/-- The Rule Table's defaults (R103). -/
def defaultRules : Vector Rule 8 :=
  #v[⟨true, 8, .minimal⟩, ⟨true, 11, .minimal⟩, ⟨false, 0, .full⟩, ⟨false, 0, .full⟩, ⟨false, 0, .full⟩,
    ⟨false, 0, .full⟩, ⟨false, 0, .full⟩, ⟨false, 0, .full⟩]

/-- The Power Unit after a power-on or tether reset at time `t`; the first stance check falls 10,000 µs later (R104, R114). -/
def Power.default (t : Time) : Power :=
  ⟨defaultStances, 200, 300, defaultRules, .standby, .standby, none, 0, 192, 0, 0, t + 10000⟩

/-- The machine right after power-on reset (R132, R166 and each chapter's reset rule), with the recovered clock and the crystal
present: DESIGN CHOICE for the two inputs, log 8. -/
def State.reset : State where
  pending := []
  clock := ⟨0, .crystal, true, none⟩
  link := ⟨.training, 0, 0, true, none, none, LinkCounters.zero⟩
  cause := ⟨.powerOn, false⟩
  streams := Vector.ofFn defaultStream
  mgmt := ⟨[], [], none⟩
  events := ⟨1, 0, false, false, false⟩
  frames := ⟨Vector.replicate 3 FrameSlot.emptied, [], 0, []⟩
  scanout := Scanout.default
  sense := Sense.default 0
  report := Report.default
  pose := Pose.cleared
  sound := ⟨AudioRecord.default, Playout.emptied, Playout.emptied, 0, false, Rate48.start, Rate48.start, [], 0, false,
    SoundPair.silent⟩
  power := Power.default 0
  sender := ⟨.notice, none⟩

end Sys2Proof.Machine
end

