-- ==== Sys2Proof/Machine/Flags.lean ====
section
/-! DEFINITION. The Event Unit (chapter 10): the event marks, raising, the pending set and the NOTICE slot, and the level conditions. -/

namespace Sys2Proof.Machine

/-- The number of a kind (Table 10-1). -/
def EventKind.number : EventKind → Nat
  | .resetDone => 0
  | .linkRecovered => 1
  | .cellErrors => 2
  | .clockFallback => 3
  | .requestOverrun => 4
  | .frameDiscarded => 5
  | .frameTurnedAway => 6
  | .frameAbandoned => 7
  | .pictureStarved => 8
  | .poseStale => 9
  | .shiftClamped => 10
  | .gyroGap => 11
  | .scanOverrun => 12
  | .snapshotReady => 13
  | .sampleQueueFull => 14
  | .rangeAlarm => 15
  | .monitorStale => 16
  | .stanceChanged => 17
  | .playoutUnderrun => 18
  | .playoutOverflow => 19
  | .captureOverflow => 20

/-- The set that holds one kind alone. -/
def EventKind.mark (k : EventKind) : EventSet := 1#21 <<< k.number

/-- The pending set: the kinds both raised and enabled (R159). -/
def Events.pending (e : Events) : EventSet := e.raised &&& e.enabled

/-- The Event Unit after an event that took it from `old` to `new`'s sets and gate: the NOTICE slot becomes ready by R163's two
cases, stays ready, or is withdrawn when the pending set is empty or the gate closed. -/
def Events.settle (old new : Events) : Events :=
  let fresh := new.pending &&& ~~~old.pending
  let opened := new.gateOpen && !old.gateOpen
  { new with notice := new.gateOpen && new.pending != 0 && (old.notice || fresh != 0 || opened) }

/-- Raising a set of kinds in one event (R157, R165). -/
def Events.raiseAll (kinds : EventSet) (e : Events) : Events := e.settle { e with raised := e.raised ||| kinds }

/-- Raising a kind (R157). -/
def State.raise (k : EventKind) (s : State) : State := { s with events := s.events.raiseAll k.mark }

/-- Raising a kind when its cause has occurred. -/
def State.raiseIf (occurred : Bool) (k : EventKind) (s : State) : State := if occurred then s.raise k else s

/-- Some slot's sticky flag is set: RANGE_ALARM's condition (R158). -/
def State.anySticky (s : State) : Bool := s.sense.samples.toList.any (·.sticky)

/-- The level kinds whose condition holds (R158). -/
def State.levelConditions (s : State) : EventSet :=
  (if s.clock.source = .fallback then EventKind.clockFallback.mark else 0) |||
    (if s.anySticky then EventKind.rangeAlarm.mark else 0) |||
    (if s.power.stale ≠ 0 then EventKind.monitorStale.mark else 0)

/-- EVENTS_CLEAR (R160): the named kinds leave the raised set, and named level kinds whose condition holds are raised again. -/
def State.clearEvents (kinds : EventSet) (s : State) : State :=
  let raised := (s.events.raised &&& ~~~kinds) ||| (kinds &&& s.levelConditions)
  { s with events := s.events.settle { s.events with raised := raised } }

/-- EVENTS_ENABLE (R161). -/
def State.enableEvents (kinds : EventSet) (s : State) : State :=
  { s with events := s.events.settle { s.events with enabled := s.events.enabled ||| kinds } }

/-- EVENTS_DISABLE (R161). -/
def State.disableEvents (kinds : EventSet) (s : State) : State :=
  { s with events := s.events.settle { s.events with enabled := s.events.enabled &&& ~~~kinds } }

/-- EVENTS_INJECT with the live lock clear (R165). -/
def State.injectEvents (kinds : EventSet) (s : State) : State := { s with events := s.events.raiseAll kinds }

/-- GATE (R162). -/
def State.setGate (opened : Bool) (s : State) : State :=
  { s with events := s.events.settle { s.events with gateOpen := opened } }

/-- LOCK_LIVE (R165). -/
def State.setLock (s : State) : State := { s with events := { s.events with lock := true } }

end Sys2Proof.Machine
end

