-- ==== Sys2Proof/Machine/Ops.lean ====
section
/-! DEFINITION. Shared operations: headset time and its order, exact arithmetic with rounding and saturation, saturating counts, and the stacked DRAM. -/

namespace Sys2Proof.Machine

/-! ### Headset time (R1, R2, R128) -/

/-- A headset time is at or before another in the modular order (R2). -/
def atOrBefore (a b : Time) : Bool := (b - a).toNat < 2 ^ 31

/-- The distance from one headset time to another (R2). -/
def distance (a b : Time) : Nat := (b - a).toNat

/-- Headset time runs: the clock source in use gives microseconds. While the crystal is in use and absent, it stands still (R128). -/
def State.timeRuns (s : State) : Bool := s.clock.source = .fallback || s.clock.crystalPresent

/-- `d` microseconds pass: headset time advances while it runs (R1), and the two watches timed by the internal oscillator count
(R117, R128). The oscillator's microsecond is taken as long as headset time's: DESIGN CHOICE, log 11. -/
def State.elapse (d : Nat) (s : State) : State :=
  { s with
    clock := { s.clock with
      now := if s.timeRuns then s.clock.now + BitVec.ofNat 32 d else s.clock.now
      watch := s.clock.watch.map (· + d) }
    link := { s.link with clockLoss := s.link.clockLoss.map (· + d) } }

/-- Headset time has reached `t`. -/
def State.reached (t : Time) (s : State) : Bool := atOrBefore t s.clock.now

/-- Headset time runs on to the due time of a timed event, if it is not there yet. DESIGN CHOICE, log 2. -/
def State.runTo (t : Time) (s : State) : State :=
  if s.reached t then s else s.elapse (distance s.clock.now t)

/-- A timed event due at `due`: taken when its timer runs and headset time runs, headset time then running on to its due time (R128,
log 2); otherwise nothing happens (log 3). -/
def State.timed (due : Option Time) (f : State → State) (s : State) : State :=
  match due with
  | some t => if s.timeRuns then f (s.runTo t) else s
  | none => s

/-! ### Arithmetic -/

/-- `n / d` rounded to the nearest integer, ties away from zero (spec/00, Arithmetic). -/
def roundDiv (n : Int) (d : Nat) : Int :=
  if 0 ≤ n then (2 * n + d) / (2 * d) else -((2 * -n + d) / (2 * d))

/-- A result beyond a range is replaced by the nearer end (spec/00, Arithmetic). -/
def saturate (lo hi x : Int) : Int := max lo (min hi x)

/-- A count that saturates at 65535 (R27, R95), raised by `n`. -/
def gapAdd (gap n : Nat) : Nat := min 65535 (gap + n)

/-! ### The stacked DRAM (R44, R48) -/

/-- The canonical form: addresses strictly rising. No byte without a value is listed, so equal contents are equal lists. -/
abbrev Memory.wf (m : Memory) : Prop := m.Pairwise (fun a b => a.1 < b.1)

/-- The byte at an address; none where nothing has been written, or where a cancelled write left the contents undefined (R43).
DESIGN CHOICE, log 12. -/
def Memory.readByte (m : Memory) (a : Nat) : Option Byte := (m.find? (fun c => c.1 == a)).map (·.2)

/-- Consecutive cells from an address. -/
def cellsFrom : Nat → List Byte → Memory
  | _, [] => []
  | a, b :: bs => (a, b) :: cellsFrom (a + 1) bs

/-- Bytes stored at consecutive addresses from `place`. -/
def Memory.store (m : Memory) (place : Nat) (bytes : List Byte) : Memory :=
  m.filter (fun c => c.1 < place) ++ cellsFrom place bytes ++ m.filter (fun c => place + bytes.length ≤ c.1)

/-- The `len` bytes from `place` lose their value. -/
def Memory.forget (m : Memory) (place len : Nat) : Memory :=
  m.filter (fun c => c.1 < place || place + len ≤ c.1)

end Sys2Proof.Machine
end

