-- ==== Sys2Proof/Machine/Frames.lean ====
section
/-! DEFINITION. The Frame Store: geometry, the three slots, band writes and their completion, and what empties a slot (chapter 3). -/

namespace Sys2Proof.Machine

/-! ### Geometry (R44, R61) -/

def Panel.renderedWidth (p : Panel) : Nat := p.width + 2 * p.marginH
def Panel.renderedHeight (p : Panel) : Nat := p.height + 2 * p.marginV

/-- The band count, the ceiling of rendered height / 16 (R61). -/
def Panel.bandCount (p : Panel) : Nat := (p.renderedHeight + 15) / 16

/-- The rows of band `i` (R44). -/
def Panel.bandRows (p : Panel) (i : Nat) : Nat :=
  if i + 1 < p.bandCount then 16 else p.renderedHeight - 16 * (p.bandCount - 1)

def State.panel (e : Eye) (s : State) : Panel :=
  match e with
  | .left => s.scanout.left
  | .right => s.scanout.right

def State.setPanel (e : Eye) (p : Panel) (s : State) : State :=
  match e with
  | .left => { s with scanout := { s.scanout with left := p } }
  | .right => { s with scanout := { s.scanout with right := p } }

/-- The eye a PIC_BAND names: 0 LEFT, 1 RIGHT, other values none (R170). -/
def eyeOf (code : Byte) : Option Eye :=
  match code.toNat with
  | 0 => some .left
  | 1 => some .right
  | _ => none

/-- The DRAM address where an eye's image begins in a slot's area: areas of 39,321,600 bytes, images of 19,660,800 (R44).
DESIGN CHOICE for the order within the DRAM, log 12. -/
def imagePlace (slot : Fin 3) (eye : Eye) : Nat :=
  slot.val * 39321600 + (match eye with
    | .left => 0
    | .right => 19660800)

/-- The DRAM address of a band's first byte: rendered row 16 × band of its eye's image (R44). -/
def bandPlace (slot : Fin 3) (eye : Eye) (band : Nat) (p : Panel) : Nat :=
  imagePlace slot eye + 16 * band * (p.renderedWidth * 3)

/-! ### Slots -/

/-- The lowest-numbered slot in a state. -/
def State.slotIn (ph : SlotPhase) (s : State) : Option (Fin 3) :=
  (List.finRange 3).find? fun i => s.frames.slots[i].phase == ph

def State.setSlot (i : Fin 3) (f : FrameSlot) (s : State) : State :=
  { s with frames := { s.frames with slots := s.frames.slots.set i.val f } }

/-- A slot's writes outstanding (R41, R48). -/
def State.outstanding (i : Fin 3) (s : State) : Nat := (s.frames.writes.filter fun w => w.slot == i).length

/-- A slot is free (R42). -/
def State.slotFree (i : Fin 3) (s : State) : Bool := s.frames.slots[i].phase == .empty && s.outstanding i == 0

/-- The lowest-numbered free slot (R46). -/
def State.freeSlot (s : State) : Option (Fin 3) := (List.finRange 3).find? fun i => s.slotFree i

/-- A slot becomes EMPTY, its writes outstanding kept (R51 to R53, R58 to R60). -/
def State.emptySlot (i : Fin 3) (s : State) : State := s.setSlot i FrameSlot.emptied

/-- A frame is superseded: its slot becomes EMPTY and the superseded count rises (R51, R52, R57). -/
def State.supersede (i : Fin 3) (s : State) : State :=
  let s := s.emptySlot i
  { s with frames := { s.frames with superseded := s.frames.superseded + 1 } }

/-- A slot that starts filling a frame (R45, R46). -/
def FrameSlot.opened (frame : BitVec 16) (noShift : Bool) (renderTime : Time) : FrameSlot :=
  ⟨.filling, some frame, some renderTime, noShift, [], [], 0⟩

/-- A band index joins a rising set of indices; one already there leaves it unchanged (R41, R49). -/
def insertBand (i : Nat) : List Nat → List Nat
  | [] => [i]
  | j :: js => if i < j then i :: j :: js else if i = j then j :: js else j :: insertBand i js

/-- The band joins the slot's set for its eye (R49). -/
def FrameSlot.joinBand (eye : Eye) (band : Nat) (f : FrameSlot) : FrameSlot :=
  match eye with
  | .left => { f with left := insertBand band f.left }
  | .right => { f with right := insertBand band f.right }

/-- Every band of both eyes has been received, by the band counts in force (R52). -/
def State.allBands (f : FrameSlot) (s : State) : Bool :=
  (List.range s.scanout.left.bandCount).all (fun i => f.left.contains i) &&
    (List.range s.scanout.right.bandCount).all (fun i => f.right.contains i)

/-! ### Cells -/

/-- PIC_OPEN at the Frame Store (R45, R46); the answer says whether the cell was taken. -/
def State.openFrame (frame : BitVec 16) (noShift : Bool) (renderTime : Time) (s : State) : Bool × State :=
  let f := FrameSlot.opened frame noShift renderTime
  match s.slotIn .filling with
  | some i => (true, (s.raise .frameAbandoned).setSlot i f)
  | none =>
    match s.freeSlot with
    | some i => (true, s.setSlot i f)
    | none => (false, s.raise .frameTurnedAway)

/-- The slot, eye and panel that accept a PIC_BAND (R47); none for a stray band. -/
def State.bandTarget (frame : BitVec 16) (eye band : Byte) (s : State) : Option (Fin 3 × Eye) :=
  match s.slotIn .filling, eyeOf eye with
  | some i, some e =>
    if s.frames.slots[i].frame = some frame ∧ band.toNat < (s.panel e).bandCount then some (i, e) else none
  | _, _ => none

/-- PIC_BAND at the Frame Store (R47, R48): an accepted band issues a band write. -/
def State.acceptBand (frame : BitVec 16) (eye band : Byte) (rows : List Byte) (s : State) : Bool × State :=
  match s.bandTarget frame eye band with
  | none => (false, s)
  | some (i, e) =>
    let w : BandWrite := ⟨i, e, band.toNat, frame, bandPlace i e band.toNat (s.panel e), rows⟩
    (true, { s with frames := { s.frames with writes := s.frames.writes ++ [w] } })

/-- A CLOSING slot completes (R52). -/
def State.completeSlot (i : Fin 3) (s : State) : State :=
  let f := s.frames.slots[i]
  if s.allBands f then
    let s := match s.slotIn .ready with
      | some r => s.supersede r
      | none => s
    s.setSlot i { f with phase := .ready }
  else (s.emptySlot i).raise .frameDiscarded

/-- PIC_CLOSE at the Frame Store (R50, R51). -/
def State.closeFrame (frame : BitVec 16) (s : State) : Bool × State :=
  match s.slotIn .filling with
  | none => (false, s)
  | some i =>
    let f := s.frames.slots[i]
    if f.frame = some frame then
      let s := match s.slotIn .closing with
        | some c => s.supersede c
        | none => s
      let s := s.setSlot i { f with phase := .closing }
      (true, if s.outstanding i = 0 then s.completeSlot i else s)
    else (false, s)

/-- The oldest band write in flight into a slot, and the writes that remain (R48: the writes of one slot complete in order). -/
def takeWrite (i : Fin 3) : List BandWrite → Option (BandWrite × List BandWrite)
  | [] => none
  | w :: ws => if w.slot = i then some (w, ws) else (takeWrite i ws).map fun r => (r.1, w :: r.2)

/-- The oldest band write of a slot completes (R49); without one in flight nothing completes. -/
def State.completeWrite (i : Fin 3) (s : State) : State :=
  match takeWrite i s.frames.writes with
  | none => s
  | some (w, rest) =>
    let s := { s with frames := { s.frames with writes := rest, dram := s.frames.dram.store w.place w.rows } }
    let f : FrameSlot := s.frames.slots[i]
    let joins := (f.phase == .filling || f.phase == .closing) && f.frame == some w.frame
    let s : State := if joins then s.setSlot i (f.joinBand w.eye w.band) else s
    if f.phase = .closing ∧ s.outstanding i = 0 then s.completeSlot i else s

/-! ### Promotion and interruptions -/

/-- The frame latch's promotion (R53, R54). -/
def State.promote (s : State) : State :=
  match s.slotIn .ready, s.slotIn .showing with
  | some r, old =>
    let f := s.frames.slots[r]
    let s := match old with
      | some o => s.emptySlot o
      | none => s
    s.setSlot r { f with phase := .showing, repeats := 0 }
  | none, some o =>
    let f := s.frames.slots[o]
    s.setSlot o { f with repeats := min 255 (f.repeats + 1) }
  | none, none => s

/-- The FILLING slot, if any, is abandoned (R59, R60). -/
def State.abandonFilling (s : State) : State :=
  match s.slotIn .filling with
  | some i => (s.emptySlot i).raise .frameAbandoned
  | none => s

/-- An accepted geometry write empties all three slots, and raises FRAME_ABANDONED once if any held a frame (R58). -/
def State.emptyAllSlots (s : State) : State :=
  let held := s.frames.slots.toList.any fun f => f.phase != .empty
  ({ s with frames := { s.frames with slots := Vector.replicate 3 FrameSlot.emptied } }).raiseIf held .frameAbandoned

/-- The slots after a reset (R43): all EMPTY, every band write cancelled, its place left without a value. -/
def FrameStore.cancelled (f : FrameStore) : FrameStore :=
  ⟨Vector.replicate 3 FrameSlot.emptied, [], f.superseded,
    f.writes.foldl (fun m w => m.forget w.place w.rows.length) f.dram⟩

end Sys2Proof.Machine
end

