-- ==== Sys2Proof/Machine/Pose.lean ====
section
/-! DEFINITION. The Pose Integrator: integration, the history ring and the lookup (2.4 to 2.6). -/

namespace Sys2Proof.Machine

/-- An entry appended to the history (R38): the oldest leaves a full ring, then every entry more than 1,000,000 µs older. -/
def appendPose (h : List PoseEntry) (e : PoseEntry) : List PoseEntry :=
  let kept := if 64 ≤ h.length then h.tail else h
  kept.filter (fun x => distance x.time e.time ≤ 1000000) ++ [e]

/-- An accumulator raised by a rate over an interval, with a 48-bit wrap; left as it is by an absent value (R35 step 3). -/
def accumulate (acc : BitVec 48) (rate : Option Int) (dt : Nat) : BitVec 48 :=
  match rate with
  | none => acc
  | some v => acc + BitVec.ofInt 48 (v * dt)

/-- A FAST pass handed to the Pose Integrator (R35, R36). -/
def State.integratePass (start : Time) (yaw pitch : Option Int) (s : State) : State :=
  if yaw.isNone && pitch.isNone then s
  else
    let p := s.pose
    let d := match p.prev with
      | none => 0
      | some t => distance t start
    let dt := min d 4095
    let y := accumulate p.yaw yaw dt
    let q := accumulate p.pitch pitch dt
    ({ s with pose := ⟨y, q, some start, appendPose p.history ⟨start, y, q⟩⟩ }).raiseIf (4095 < d) .gyroGap

/-- Clearing the pose history (R37). -/
def State.clearHistory (s : State) : State := { s with pose := { s.pose with prev := none, history := [] } }

/-- The answer of a lookup (R39, R40): the deltas are signed, E and N are the times of the entries. -/
inductive Lookup
  | empty
  | ahead (newest : Time)
  | found (dYaw dPitch : Int) (e n : Time)
  | stale (dYaw dPitch : Int) (e n : Time)
  deriving DecidableEq, Repr

/-- The pose history looked up at render time `t` (R39, R40). -/
def lookupPose (h : List PoseEntry) (t : Time) : Lookup :=
  match h, h.getLast? with
  | oldest :: _, some n =>
    if !atOrBefore t n.time then .ahead n.time
    else
      match (h.filter fun e => atOrBefore e.time t).getLast? with
      | some e => .found (n.yaw - e.yaw).toInt (n.pitch - e.pitch).toInt e.time n.time
      | none => .stale (n.yaw - oldest.yaw).toInt (n.pitch - oldest.pitch).toInt oldest.time n.time
  | _, _ => .empty

end Sys2Proof.Machine
end

