-- ==== Sys2Proof/Machine/Report.lean ====
section
/-! DEFINITION. The Report Assembler: the Sample Queue, its gap count and age expiry, and the MOTION cell (2.1 to 2.3). -/

namespace Sys2Proof.Machine

/-- The capacity of the Sample Queue (R26). -/
def sampleCapacity : Nat := 512

/-- The headset time at which an entry's age reaches the age limit (R30). -/
def Report.expiryOf (r : Report) (e : SampleEntry) : Time := e.time + BitVec.ofNat 32 r.ageLimit

/-- An entry's age has reached the age limit at time `now` (R30, with the distance of R2). A time that reads as after `now` is measured by
the same difference modulo 2^32, and so counts as past the limit: DESIGN CHOICE, log 32. -/
def Report.aged (r : Report) (now : Time) (e : SampleEntry) : Bool := r.ageLimit ≤ distance e.time now

/-- MOTION is ready (R30). -/
def Report.motionReady (r : Report) : Bool := !r.queue.isEmpty && (r.threshold ≤ r.queue.length || r.expired)

/-- A sample offered to the Sample Queue (R26, R27): it joins at the tail, or is counted as a gap when the queue is full. -/
def State.offerSample (e : SampleEntry) (s : State) : State :=
  let r := s.report
  if r.queue.length < sampleCapacity then
    { s with report := { r with
        queue := r.queue ++ [e]
        expired := if r.queue.isEmpty then r.aged s.clock.now e else r.expired } }
  else
    ({ s with report := { r with gap := gapAdd r.gap 1, filling := true } }).raiseIf (!r.filling) .sampleQueueFull

/-- The entries a MOTION cell takes and the entries it leaves (R32 step 2): at most `room` more, each within 65,535 µs of the base. -/
def takeWindow (base : Time) : Nat → List SampleEntry → List SampleEntry × List SampleEntry
  | 0, rest => ([], rest)
  | _, [] => ([], [])
  | room + 1, e :: rest =>
    if distance base e.time < 65536 then
      let t := takeWindow base room rest
      (e :: t.1, t.2)
    else ([], e :: rest)

/-- A MOTION cell built from the head of the Sample Queue (R32); none from an empty queue. -/
def State.buildMotion (s : State) : Option (UpCell × State) :=
  let r := s.report
  match r.queue with
  | [] => none
  | head :: _ =>
    let t := takeWindow head.time 60 r.queue
    let cell := UpCell.motion head.time r.gap (t.1.map fun e => ⟨e.slot, e.value, distance head.time e.time⟩)
    let expired := match t.2 with
      | [] => false
      | e :: _ => r.aged s.clock.now e
    some (cell, { s with report := { r with queue := t.2, gap := 0, filling := false, expired := expired } })

/-- The age expiry of the head entry (R30). -/
def State.ageHead (s : State) : State := { s with report := { s.report with expired := true } }

end Sys2Proof.Machine
end

