-- ==== Sys2Proof/Machine/Sense.lean ====
section
/-! DEFINITION. The Sense Engine: calibration, range judging, samples, passes, the two arbiters, triggers and the snapshot (chapter 1). -/

namespace Sys2Proof.Machine

/-! ### Slots, groups and their effective periods -/

/-- The raw value of a motion source (Table 1-1), signed. -/
def axisValue (r : SixAxes) (source : Fin 16) : Int :=
  match source.val with
  | 0 => r.gyroX.toInt
  | 1 => r.gyroY.toInt
  | 2 => r.gyroZ.toInt
  | 3 => r.accelX.toInt
  | 4 => r.accelY.toInt
  | _ => r.accelZ.toInt

/-- Sources 0 to 5 are the motion sources (1.2). -/
def isMotion (source : Fin 16) : Bool := source.val < 6

/-- A slot's record is a member of a scan group (R5). -/
def Channel.memberOf (c : Channel) (g : ScanGroup) : Bool :=
  c.source.isSome && (match g with
    | .fast => c.group == .fast
    | .slow => c.group == .slow)

/-- A group's member slots, ascending (R5). -/
def State.members (g : ScanGroup) (s : State) : List (Fin 16) :=
  (List.finRange 16).filter fun k => s.sense.channels[k].memberOf g

def State.group (g : ScanGroup) (s : State) : Group :=
  match g with
  | .fast => s.sense.fast
  | .slow => s.sense.slow

def State.setGroup (g : ScanGroup) (x : Group) (s : State) : State :=
  match g with
  | .fast => { s with sense := { s.sense with fast := x } }
  | .slow => { s with sense := { s.sense with slow := x } }

def Stance.index : Stance → Fin 4
  | .full => 0
  | .reduced => 1
  | .minimal => 2
  | .standby => 3

/-- The record of the stance in effect, whose permissions and FAST period floor are in force in the other blocks (R99, R111). -/
def State.stance (s : State) : StanceRecord := s.power.stances[s.power.inEffect.index]

/-- A group's minimum, its pass duration (R11). -/
def State.groupMinimum (g : ScanGroup) (s : State) : Nat :=
  let sources := (s.members g).filterMap fun k => s.sense.channels[k].source
  (if sources.any isMotion then 24 else 0) + 3 * (sources.filter fun x => !isMotion x).length

/-- A group's effective period (R11), computed where it is read. A WRITE that changes a member slot's source between motion and analog changes
the minimum at once, though it changes neither the record nor the membership of the group: DESIGN CHOICE, log 34. -/
def State.effectivePeriod (g : ScanGroup) (s : State) : Nat :=
  let own := max (s.group g).period (s.groupMinimum g)
  match g with
  | .fast => max own s.stance.fastFloor
  | .slow => own

/-- When a group's TIMER schedule next triggers (R12); none while the group has no schedule. -/
def State.triggerDue (g : ScanGroup) (s : State) : Option Time :=
  match (s.group g).timer with
  | none => none
  | some (.first t) => some t
  | some (.after t) => some (t + BitVec.ofNat 32 (s.effectivePeriod g))

/-! ### Calibration and range judging (R20, R22) -/

/-- The corrected value of a raw value (R20). -/
def Channel.correct (c : Channel) (raw : Int) : Int :=
  saturate (-32768) 32767 (roundDiv ((raw + c.offset) * c.gain) 4096)

/-- A slot's range condition for a value (R22). -/
def Channel.condition (c : Channel) (v : Int) : Bool :=
  match c.rangeMode with
  | .off => false
  | .outside => decide (v > c.upper) || decide (v < c.lower)
  | .inside => decide (c.lower ≤ v) && decide (v ≤ c.upper)

/-- The side recorded at an onset (R22). -/
def Channel.onsetSide (c : Channel) (v : Int) : Side :=
  match c.rangeMode with
  | .inside => .within
  | _ => if v > c.upper then .above else .below

/-- A judged sample set against the slot's alarm state (R22). -/
def SampleState.judge (c : Channel) (v : Int) (x : SampleState) : SampleState :=
  let cond := c.condition v
  if cond = x.alarm then { x with run := 0 }
  else if x.run + 1 < c.persist then { x with run := x.run + 1 }
  else if cond && !x.sticky then { x with run := 0, alarm := true, sticky := true, side := c.onsetSide v }
  else { x with run := 0, alarm := cond }

/-- The latest record and the extremes after a corrected sample (R21 steps 2 and 3). -/
def SampleState.record (v : Int) (t : Time) (x : SampleState) : SampleState :=
  { x with
    value := v
    time := t
    valid := true
    min := if x.extremesValid then Min.min x.min v else v
    max := if x.extremesValid then Max.max x.max v else v
    extremesValid := true }

/-- The sample state after a completed sample of value `v` (R21 steps 2 to 4). -/
def SampleState.take (c : Channel) (v : Int) (t : Time) (x : SampleState) : SampleState :=
  let y := x.record v t
  if c.rangeMode = .off then y else y.judge c v

def State.setSample (k : Fin 16) (x : SampleState) (s : State) : State :=
  { s with sense := { s.sense with samples := s.sense.samples.set k.val x } }

/-- A slot's sample completes (R21). -/
def State.sampleComplete (k : Fin 16) (raw : Int) (t : Time) (s : State) : State :=
  let c := s.sense.channels[k]
  let v := c.correct raw
  let old := s.sense.samples[k]
  let new := old.take c v t
  let s := (s.setSample k new).raiseIf (new.sticky && !old.sticky) .rangeAlarm
  if c.report then s.offerSample ⟨k, v, t⟩ else s

/-! ### Passes (R13, R14, R24) -/

/-- The corrected value, in the pass just taken, of the FAST member slot that holds a role (R5, R13); none when there is none. -/
def State.roleValue (r : Role) (s : State) : Option Int :=
  ((s.members .fast).find? fun k => s.sense.channels[k].role = r).map fun k => s.sense.samples[k].value

/-- The Snapshot record refilled at a SLOW pass completion (R24). -/
def State.refillSnapshot (start : Time) (s : State) : State :=
  let entries := (s.members .slow).map fun k =>
    (⟨k, s.sense.samples[k].value, s.sense.samples[k].valid⟩ : SnapshotEntry)
  ({ s with sense := { s.sense with snapshot := ⟨start, entries, false⟩ } }).raise .snapshotReady

/-- A pass completes (R13): the count rises, the group goes to ARMED or, in mode ONCE, to STOPPED, a FAST pass is handed to the
Pose Integrator and a SLOW pass with hold yes takes the snapshot. -/
def State.passComplete (g : ScanGroup) (p : Pass) (s : State) : State :=
  let start := p.start.getD s.clock.now
  let x := s.group g
  let s := s.setGroup g { x with
    passes := x.passes + 1
    pass := none
    phase := if x.mode = .once then .stopped else .armed
    timer := if x.mode = .once then none else x.timer }
  match g with
  | .fast => s.integratePass start (s.roleValue .yaw) (s.roleValue .pitch)
  | .slow => if x.hold then s.refillSnapshot start else s

/-- A pass stands at the slots `todo` (R13, R14). A motion slot whose pass holds a burst completes at once; any other slot leaves
the group PASSING, waiting for its resource; in mode STEP the group rearms after each slot but the last. -/
def State.walk (g : ScanGroup) (p : Pass) : List (Fin 16) → State → State
  | [], s => s.passComplete g p
  | k :: rest, s =>
    match p.burst, s.sense.channels[k].source with
    | some b, some src =>
      if isMotion src then
        let s := s.sampleComplete k (axisValue b.raw src) b.time
        if (s.group g).mode = .step ∧ rest ≠ [] then
          s.setGroup g { s.group g with phase := .armed, pass := some { p with todo := rest } }
        else State.walk g p rest s
      else s.setGroup g { s.group g with phase := .passing, pass := some { p with todo := k :: rest } }
    | _, _ => s.setGroup g { s.group g with phase := .passing, pass := some { p with todo := k :: rest } }

/-- The pass goes on after the sample of a slot that needed a conversion (R13, R14). -/
def State.walkOn (g : ScanGroup) (p : Pass) (rest : List (Fin 16)) (s : State) : State :=
  if (s.group g).mode = .step ∧ rest ≠ [] then
    s.setGroup g { s.group g with phase := .armed, pass := some { p with todo := rest } }
  else s.walk g p rest

/-- A new pass starts at the lowest member slot (R12, R13). -/
def State.startPass (g : ScanGroup) (s : State) : State :=
  s.walk g ⟨none, s.members g, none⟩ (s.members g)

/-! ### The arbiters (R15) -/

/-- The two resources of the Sense Engine (1.2). -/
inductive Resource
  | port
  | converter
  deriving DecidableEq, Repr

/-- The resource that a PASSING group's pass stands waiting for or uses (R13). -/
def State.needs (g : ScanGroup) (s : State) : Option Resource :=
  match (s.group g).phase, (s.group g).pass with
  | .passing, some p =>
    match p.todo with
    | [] => none
    | k :: _ =>
      match s.sense.channels[k].source with
      | none => none
      | some src => if isMotion src then (if p.burst.isNone then some .port else none) else some .converter
  | _, _ => none

/-- The pass start time is the start time of the pass's first burst or conversion (R13). -/
def State.stampPass (g : ScanGroup) (s : State) : State :=
  let x := s.group g
  s.setGroup g { x with pass := x.pass.map fun p => { p with start := some (p.start.getD s.clock.now) } }

/-- A resource is granted to a group: its burst or conversion starts now (R3, R4, R15). -/
def State.grantTo (g : ScanGroup) (r : Resource) (s : State) : State :=
  let s := s.stampPass g
  match r with
  | .port => { s with sense := { s.sense with port := some ⟨g, s.clock.now⟩ } }
  | .converter => { s with sense := { s.sense with converter := some ⟨g, s.clock.now⟩ } }

/-- The burst or conversion in flight on a resource. -/
def State.inUse (r : Resource) (s : State) : Option InFlight :=
  match r with
  | .port => s.sense.port
  | .converter => s.sense.converter

/-- A free resource goes to FAST if FAST waits for it, else to SLOW if SLOW does (R15). -/
def State.arbitrateOne (r : Resource) (s : State) : State :=
  if (s.inUse r).isSome then s
  else if s.needs .fast = some r then s.grantTo .fast r
  else if s.needs .slow = some r then s.grantTo .slow r
  else s

/-- Both arbiters act (R15). -/
def State.arbitrate (s : State) : State := (s.arbitrateOne .port).arbitrateOne .converter

/-! ### Triggers, stops and completions (R12, R16 to R18, R25) -/

/-- A trigger reaches a group (R10, R12, R14, R25); the arbiters have yet to act. -/
def State.trigger (g : ScanGroup) (s : State) : State :=
  let x := s.group g
  match x.phase with
  | .stopped => s
  | .passing | .held => s.raise .scanOverrun
  | .armed =>
    match x.pass with
    | some p => s.walk g p p.todo
    | none =>
      if g = .slow ∧ x.hold ∧ ¬ s.sense.snapshot.taken then s.setGroup g { x with phase := .held }
      else s.startPass g

/-- A frame latch reaches the groups whose trigger is LATCH, FAST first (R12, R15). -/
def State.latchTriggers (s : State) : State :=
  let one (g : ScanGroup) (s : State) : State := if (s.group g).trigger = .latch then s.trigger g else s
  (one .slow (one .fast s)).arbitrate

/-- A group's TIMER trigger (R12): this trigger becomes the last of the schedule, whatever becomes of it. -/
def State.timerTrigger (g : ScanGroup) (s : State) : State :=
  let s := s.setGroup g { s.group g with timer := some (.after s.clock.now) }
  (s.trigger g).arbitrate

/-- A group armed by GROUP_START from STOPPED (R12, R16). -/
def State.armGroup (g : ScanGroup) (s : State) : State :=
  let x := s.group g
  s.setGroup g { x with
    phase := .armed
    pass := none
    timer := if x.trigger = .timer then some (.first s.clock.now) else none }

/-- The bursts and conversions of a group are abandoned and their resources free (R3, R4, R17). -/
def State.abandonInFlight (g : ScanGroup) (s : State) : State :=
  let drop (x : Option InFlight) : Option InFlight := x.filter fun u => u.owner != g
  { s with sense := { s.sense with port := drop s.sense.port, converter := drop s.sense.converter } }

/-- A group moved to STOPPED (R17): its pass or held trigger and its schedule are discarded, its resources pass to a waiting group. -/
def State.stopGroup (g : ScanGroup) (s : State) : State :=
  let s := s.setGroup g { s.group g with phase := .stopped, pass := none, timer := none }
  (s.abandonInFlight g).arbitrate

/-- FAST forced to STOPPED by the stance (R18). -/
def State.forceStopFast (s : State) : State := (s.stopGroup .fast).clearHistory

/-- A burst completes with its six raw values (R3, R13); without a burst in flight, or a pass to serve, no sample completes. -/
def State.burstDone (raw : SixAxes) (s : State) : State :=
  match s.sense.port with
  | none => s
  | some u =>
    let s := { s with sense := { s.sense with port := none } }
    match (s.group u.owner).pass with
    | none => s.arbitrate
    | some p => (s.walk u.owner { p with burst := some ⟨raw, u.start⟩ } p.todo).arbitrate

/-- The raw value of a conversion: a conversion of source 15 always yields 2048 (R4). -/
def conversionValue (source : Option (Fin 16)) (raw : BitVec 12) : Int :=
  if source = some 15 then 2048 else (raw.toNat : Int)

/-- A conversion completes (R4, R13). -/
def State.conversionDone (raw : BitVec 12) (s : State) : State :=
  match s.sense.converter with
  | none => s
  | some u =>
    let s := { s with sense := { s.sense with converter := none } }
    match (s.group u.owner).pass with
    | none => s.arbitrate
    | some p =>
      match p.todo with
      | [] => s.arbitrate
      | k :: rest =>
        let s := s.sampleComplete k (conversionValue s.sense.channels[k].source raw) u.start
        (s.walkOn u.owner p rest).arbitrate

/-- The Snapshot record marked taken by a READ, which releases a HELD SLOW group into its pass (R24, R25). -/
def State.takeSnapshot (s : State) : State :=
  if s.sense.snapshot.taken then s
  else
    let s := { s with sense := { s.sense with snapshot := { s.sense.snapshot with taken := true } } }
    if s.sense.slow.phase = .held then (s.startPass .slow).arbitrate else s

/-- RANGE_CLEAR (R23). -/
def State.clearRange (slots : BitVec 16) (s : State) : State :=
  let clear (k : Fin 16) : SampleState :=
    let x := s.sense.samples[k]
    if slots.getLsbD k.val then { x with sticky := false, side := .none } else x
  { s with sense := { s.sense with samples := Vector.ofFn clear } }

/-- EXTREMES_CLEAR (R23). The values beside the cleared mark stand: DEDUCED, log 13. -/
def State.clearExtremes (slots : BitVec 16) (s : State) : State :=
  let clear (k : Fin 16) : SampleState :=
    let x := s.sense.samples[k]
    if slots.getLsbD k.val then { x with extremesValid := false } else x
  { s with sense := { s.sense with samples := Vector.ofFn clear } }

end Sys2Proof.Machine
end

