-- ==== Sys2Proof/Machine/Scanout.lean ====
section
/-! DEFINITION. The Scanout Unit: panel power, the frame latch, black and brightness, the late shift and the window (chapter 4). -/

namespace Sys2Proof.Machine

/-- The refresh period in microseconds of headset time (Table 4-2). -/
def RefreshCode.period : RefreshCode → Nat
  | .hz72 => 13889
  | .hz80 => 12500
  | .hz90 => 11111
  | .hz120 => 8333
  | .hz144 => 6944

/-! ### Panel power (R65, R66) -/

/-- A panel's demand (R65). -/
def State.demand (s : State) : Bool := s.scanout.enable && s.stance.panels

/-- What a panel shows nothing of while it is not ON (R65, R69, R79). -/
def Panel.dark (p : Panel) : Panel := { p with dx := 0, dy := 0, shown := 0, window := none }

/-- A panel acts on the demand as it stands (Table 4-3). -/
def Panel.follow (demand : Bool) (now : Time) (p : Panel) : Panel :=
  match p.power, demand with
  | .off, true => { p with power := .starting, seqEnd := now + 20000 }
  | .starting, false => { p with power := .stopping, seqEnd := now + 10000 }
  | .on, false => { p.dark with power := .stopping, seqEnd := now + 10000 }
  | _, _ => p

/-- The latch timer runs while at least one panel is ON (R68): it stops when the last leaves ON. -/
def Scanout.stopIdleTimer (x : Scanout) : Scanout :=
  if x.left.power = .on ∨ x.right.power = .on then x else { x with latchDue := none }

/-- Both panels act on the demand (R65). -/
def State.followDemand (s : State) : State :=
  let x := { s.scanout with
    left := s.scanout.left.follow s.demand s.clock.now
    right := s.scanout.right.follow s.demand s.clock.now }
  { s with scanout := x.stopIdleTimer }

/-- Both panels are OFF (R63). -/
def State.bothOff (s : State) : Bool := s.scanout.left.power == .off && s.scanout.right.power == .off

/-! ### Black and brightness between latches (R72, R73) -/

/-- A panel showing a frame goes black for the rest of its refresh; dx and dy stand (R72, R79). -/
def Panel.black (p : Panel) : Panel := { p with shown := 0, window := none }

def State.blackOut (s : State) : State :=
  { s with scanout := { s.scanout with left := s.scanout.left.black, right := s.scanout.right.black } }

/-- A brightness above the setpoint or the cap in force is lowered at once (R73). -/
def Panel.limit (cap : Nat) (p : Panel) : Panel := { p with shown := min p.shown (min p.setpoint cap) }

def State.limitBrightness (s : State) : State :=
  { s with scanout := { s.scanout with
      left := s.scanout.left.limit s.power.cap
      right := s.scanout.right.limit s.power.cap } }

/-! ### The frame latch (R69) -/

/-- The refresh of an ON panel is black at a latch (Table 4-4): `showing` is the slot SHOWING after promotion. -/
def Panel.blackAtLatch (p : Panel) (showing : Option FrameSlot) (linkUp crystal : Bool) : Bool :=
  match showing with
  | none => true
  | some f => decide (p.repeatLimit < f.repeats) || !linkUp || !crystal

/-- The starved mark of an ON panel after a latch (R70). -/
def Panel.starvedAtLatch (p : Panel) (showing : Option FrameSlot) : Bool :=
  match showing with
  | none => p.starved
  | some f => decide (p.repeatLimit < f.repeats)

/-- The deltas a lookup gives the shift: present for FOUND and STALE (R40, Table 4-5). -/
def Lookup.deltas : Lookup → Option (Int × Int)
  | .found dy dp _ _ => some (dy, dp)
  | .stale dy dp _ _ => some (dy, dp)
  | .empty => none
  | .ahead _ => none

/-- A lookup of this result raises POSE_STALE (R74). -/
def Lookup.poseStale : Lookup → Bool
  | .empty => true
  | .stale _ _ _ _ => true
  | .found _ _ _ _ => false
  | .ahead _ => false

/-- The shift of one axis before the clamp (R76). -/
def shiftOf (delta : Int) (k : Nat) : Int := roundDiv (delta * k) 4096000000

/-- The dx and dy of a panel before the clamp (Table 4-5, R76). -/
def Panel.rawShift (p : Panel) (noShift : Bool) (answer : Option Lookup) : Int × Int :=
  if noShift || !p.shiftEnable then (0, 0)
  else
    match answer.bind Lookup.deltas with
    | none => (0, 0)
    | some d => (shiftOf d.1 p.kH, shiftOf d.2 p.kV)

/-- A shift held to a margin (R77). -/
def clampShift (margin : Nat) (x : Int) : Int := saturate (-(margin : Int)) margin x

/-- What a latch makes of one panel: its state, whether it began a starvation run, and whether its shift was clamped. -/
structure LatchedPanel where
  panel : Panel
  starvation : Bool
  clamped : Bool

/-- One panel at a latch (R69 steps 2 to 6). -/
def Panel.latch (p : Panel) (slot : Option (Fin 3)) (showing : Option FrameSlot) (linkUp crystal : Bool)
    (answer : Option Lookup) (cap : Nat) : LatchedPanel :=
  if p.power ≠ .on then ⟨p.dark, false, false⟩
  else
    let starved := p.starvedAtLatch showing
    let begun := starved && !p.starved
    let p := { p with starved := starved }
    match slot, showing with
    | some i, some f =>
      if p.blackAtLatch showing linkUp crystal then ⟨p.dark, begun, false⟩
      else
        let raw := p.rawShift f.noShift answer
        let dx := clampShift p.marginH raw.1
        let dy := clampShift p.marginV raw.2
        ⟨{ p with
            dx := dx
            dy := dy
            shown := min p.setpoint cap
            window := some ⟨i, p.marginH - dx, p.marginV - dy⟩ }, begun, dx != raw.1 || dy != raw.2⟩
    | _, _ => ⟨p.dark, begun, false⟩

/-- A panel for which a lookup is made (R74): ON, its refresh not black, shift enable yes. -/
def Panel.wantsLookup (p : Panel) (showing : Option FrameSlot) (linkUp crystal : Bool) : Bool :=
  p.power == .on && p.shiftEnable && !p.blackAtLatch showing linkUp crystal

/-- The lookup of a latch (R74); none when its conditions do not hold. -/
def State.latchLookup (showing : Option FrameSlot) (linkUp crystal : Bool) (s : State) : Option Lookup :=
  match showing with
  | none => none
  | some f =>
    if !f.noShift && (s.scanout.left.wantsLookup showing linkUp crystal || s.scanout.right.wantsLookup showing linkUp crystal)
    then f.renderTime.map (lookupPose s.pose.history)
    else none

/-- A frame latch (R69): promotion, starvation, black, lookup, shift, brightness, then the hand-off to the Sense Engine. The latch
timer's next latch is set a refresh period later (R68). -/
def State.frameLatch (s : State) : State :=
  let s := s.promote
  let slot := s.slotIn .showing
  let showing := slot.map fun i => s.frames.slots[i]
  let linkUp := s.link.state == .up
  let crystal := s.clock.source == .crystal
  let answer := s.latchLookup showing linkUp crystal
  let l := s.scanout.left.latch slot showing linkUp crystal answer s.power.cap
  let r := s.scanout.right.latch slot showing linkUp crystal answer s.power.cap
  let s := { s with scanout := { s.scanout with
    left := l.panel
    right := r.panel
    latchCount := s.scanout.latchCount + 1
    latchDue := some (s.clock.now + BitVec.ofNat 32 s.scanout.refresh.period) } }
  let s := s.raiseIf (l.starvation || r.starvation) .pictureStarved
  let s := s.raiseIf (answer.any Lookup.poseStale) .poseStale
  let s := s.raiseIf (l.clamped || r.clamped) .shiftClamped
  s.latchTriggers

/-- A panel-ready completion (R65, R66): the panel goes ON, black until a latch; a latch comes at once if the timer was stopped. -/
def State.panelOn (e : Eye) (s : State) : State :=
  let s := s.setPanel e { (s.panel e).dark with power := .on }
  if s.scanout.latchDue.isNone then s.frameLatch else s

/-- A power-down completion (R65): the panel goes OFF, or starts again while the demand is yes. -/
def State.panelDown (e : Eye) (s : State) : State :=
  let p := s.panel e
  s.setPanel e (if s.demand then { p with power := .starting, seqEnd := s.clock.now + 20000 } else { p with power := .off })

/-! ### What a panel shows (R78) -/

/-- The three bytes, red, green and blue, at a rendered pixel of an eye's image in a slot's area (R44, chapter 11's opening). -/
def State.renderedPixel (slot : Fin 3) (e : Eye) (column row : Nat) (s : State) : List (Option Byte) :=
  let a := imagePlace slot e + (row * (s.panel e).renderedWidth + column) * 3
  [s.frames.dram.readByte a, s.frames.dram.readByte (a + 1), s.frames.dram.readByte (a + 2)]

/-- The pixel that panel pixel (c, r) shows through the panel's window (R78); none while the panel shows black or is not ON. -/
def State.shownPixel (e : Eye) (c r : Nat) (s : State) : Option (List (Option Byte)) :=
  (s.panel e).window.map fun w => s.renderedPixel w.slot e (w.column + (c : Int)).toNat (w.row + (r : Int)).toNat

end Sys2Proof.Machine
end

