-- ==== Sys2Proof/Machine/Sound.lean ====
section
/-! DEFINITION. The Sound Unit: playout queues, the output tick, slips, the mixer, silence and voice capture (chapter 5). -/

namespace Sys2Proof.Machine

/-! ### Gain codes (R89) -/

/-- c(g) for the codes 0 to 95: 32768 × 10^(−g/40) rounded to the nearest integer (R89). -/
def gainTableLow : List Nat :=
  [32768, 30935, 29205, 27571, 26029, 24573, 23198, 21900, 20675, 19519, 18427, 17396, 16423, 15504, 14637, 13818] ++
  [13045, 12315, 11627, 10976, 10362, 9783, 9235, 8719, 8231, 7771, 7336, 6925, 6538, 6172, 5827, 5501] ++
  [5193, 4903, 4629, 4370, 4125, 3894, 3677, 3471, 3277, 3093, 2920, 2757, 2603, 2457, 2320, 2190] ++
  [2068, 1952, 1843, 1740, 1642, 1550, 1464, 1382, 1305, 1232, 1163, 1098, 1036, 978, 924, 872] ++
  [823, 777, 734, 693, 654, 617, 583, 550, 519, 490, 463, 437, 413, 389, 368, 347] ++
  [328, 309, 292, 276, 260, 246, 232, 219, 207, 195, 184, 174, 164, 155, 146, 138]

/-- c(g) for the codes 96 to 191 (R89). -/
def gainTableHigh : List Nat :=
  [130, 123, 116, 110, 104, 98, 92, 87, 82, 78, 73, 69, 65, 62, 58, 55] ++
  [52, 49, 46, 44, 41, 39, 37, 35, 33, 31, 29, 28, 26, 25, 23, 22] ++
  [21, 20, 18, 17, 16, 16, 15, 14, 13, 12, 12, 11, 10, 10, 9, 9] ++
  [8, 8, 7, 7, 7, 6, 6, 6, 5, 5, 5, 4, 4, 4, 4, 3] ++
  [3, 3, 3, 3, 3, 2, 2, 2, 2, 2, 2, 2, 2, 2, 1, 1] ++
  [1, 1, 1, 1, 1, 1, 1, 1, 1, 1, 1, 1, 1, 1, 1, 1]

/-- The coefficient of a gain code; 192 is mute (R89). -/
def gainCoefficient (g : Nat) : Nat :=
  if g < 96 then gainTableLow.getD g 0 else gainTableHigh.getD (g - 96) 0

/-- A sample value scaled by a gain code: exact, then rounded to the nearest integer, ties away from zero (R90, R94). -/
def scaleByGain (x : Int) (g : Nat) : Int := roundDiv (x * gainCoefficient g) 32768

/-- Saturation to a signed 24-bit sample value (R90). -/
def saturate24 (x : Int) : Int := saturate (-8388608) 8388607 x

/-! ### Conditions (R92, R96) -/

/-- Sound is barred (R92). -/
def State.soundBarred (s : State) : Bool :=
  s.link.state != .up || s.clock.source == .fallback || !s.stance.sound

/-- Capture is active (R96). -/
def State.captureActive (s : State) : Bool := s.sound.audio.captureEnable && s.stance.voice

/-! ### Playout queues (R82 to R87) -/

def playoutCapacity : Nat := 1024

def State.playout (k : Sink) (s : State) : Playout :=
  match k with
  | .a => s.sound.queueA
  | .b => s.sound.queueB

def State.setPlayout (k : Sink) (q : Playout) (s : State) : State :=
  match k with
  | .a => { s with sound := { s.sound with queueA := q } }
  | .b => { s with sound := { s.sound with queueB := q } }

/-- The start threshold of a sink's queue (R80). -/
def AudioRecord.start (a : AudioRecord) (k : Sink) : Nat :=
  match k with
  | .a => a.startA
  | .b => a.startB

/-- A PRIMING queue whose fill has reached its start threshold goes to PLAYING, and a fade in progress ends (R81, R84, R87). -/
def Playout.startIfPrimed (start : Nat) (q : Playout) : Playout :=
  if q.phase = .priming ∧ start ≤ q.pairs.length then { q with phase := .playing, fade := 0 } else q

/-- One pair appended (R83): an IDLE queue becomes PRIMING at its first pair. -/
def Playout.append (start : Nat) (p : SoundPair) (q : Playout) : Playout :=
  let q := { q with pairs := q.pairs ++ [p], phase := if q.phase = PlayPhase.idle then .priming else q.phase }
  q.startIfPrimed start

/-- A cell's pairs appended while the queue has room; the answer says whether every pair fitted (R83). -/
def Playout.appendAll (start : Nat) : List SoundPair → Playout → Bool × Playout
  | [], q => (true, q)
  | p :: ps, q => if q.pairs.length < playoutCapacity then Playout.appendAll start ps (q.append start p) else (false, q)

/-- A SOUND cell at the Sound Unit (R83); the answer says whether it was taken. -/
def State.takeSound (k : Sink) (pairs : List SoundPair) (s : State) : Bool × State :=
  if s.soundBarred then (false, s)
  else
    let r := Playout.appendAll (s.sound.audio.start k) pairs (s.playout k)
    (r.1, (s.setPlayout k r.2).raiseIf (!r.1) .playoutOverflow)

/-- The last pair scaled by (32 − k) / 32 at fade step k, truncated toward zero (R86). -/
def fadedPair (last : Option SoundPair) (k : Nat) : SoundPair :=
  match last with
  | none => SoundPair.silent
  | some p => ⟨(p.left * (32 - k : Nat)).tdiv 32, (p.right * (32 - k : Nat)).tdiv 32⟩

/-- What a queue gives at a tick: the queue after it, the contribution, and whether it underran (R85, R86). -/
def Playout.tick (q : Playout) : Playout × SoundPair × Bool :=
  match q.phase with
  | .idle => (q, SoundPair.silent, false)
  | .playing =>
    match q.pairs with
    | [] => ({ q with phase := .priming, fade := 1, hold := false }, fadedPair q.last 1, true)
    | p :: ps => ({ q with pairs := if q.hold then p :: ps else ps, last := some p, hold := false }, p, false)
  | .priming =>
    if q.fade = 0 then (q, SoundPair.silent, false)
    else
      let k := q.fade + 1
      ({ q with fade := if 32 ≤ k then 0 else k }, fadedPair q.last k, false)

/-! ### The mixer and the tick (R85, R90, R91) -/

/-- The applied master code: the larger of the master gain code and the attenuation floor in force (R91). -/
def State.appliedMaster (s : State) : Nat := max s.sound.audio.masterGain s.power.floor

/-- One channel of the mixer (R90). -/
def mixChannel (a b : Int) (gainA gainB master : Nat) : Int :=
  let m := saturate24 (scaleByGain a gainA + scaleByGain b gainB)
  saturate24 (scaleByGain m master)

/-- The next event of a 48 kHz schedule, 20 5/6 µs later (R85, R94). -/
def Rate48.next (r : Rate48) : Rate48 := ⟨r.due + BitVec.ofNat 32 (20 + (r.sixths + 5) / 6), (r.sixths + 5) % 6⟩

/-- The output tick (R85). A tick whose number is a multiple of 480 owes a slip check (R88). -/
def State.outputTick (s : State) : State :=
  let a := s.sound.queueA.tick
  let b := s.sound.queueB.tick
  let g := s.sound.audio
  let m := s.appliedMaster
  let mixed : SoundPair :=
    ⟨mixChannel a.2.1.left b.2.1.left g.gainA g.gainB m, mixChannel a.2.1.right b.2.1.right g.gainA g.gainB m⟩
  let out := if s.soundBarred then SoundPair.silent else mixed
  let n := s.sound.tickCount + 1
  let s := { s with sound := { s.sound with
    queueA := a.1
    queueB := b.1
    tickCount := n
    slipDue := s.sound.slipDue || n % 480 == 0
    tick := s.sound.tick.next
    output := out } }
  s.raiseIf (a.2.2 || b.2.2) .playoutUnderrun

/-- The slip check of one queue (R88). -/
def Playout.slip (low high : Nat) (q : Playout) : Playout :=
  if q.phase ≠ .playing then q
  else if high < q.pairs.length then { q with pairs := q.pairs.tail }
  else if 0 < q.pairs.length ∧ q.pairs.length < low then { q with hold := true }
  else q

/-- The slip check (R88). -/
def State.slipCheck (s : State) : State :=
  let g := s.sound.audio
  { s with sound := { s.sound with
    queueA := s.sound.queueA.slip g.slipLow g.slipHigh
    queueB := s.sound.queueB.slip g.slipLow g.slipHigh
    slipDue := false } }

/-! ### Silence (R93) -/

/-- When sound is barred both playout queues are emptied (R93). -/
def State.emptyIfBarred (s : State) : State :=
  if s.soundBarred then { s with sound := { s.sound with queueA := Playout.emptied, queueB := Playout.emptied } } else s

/-- Both queues judged against their start thresholds after a write (R81). -/
def State.startPrimed (s : State) : State :=
  let g := s.sound.audio
  { s with sound := { s.sound with
    queueA := s.sound.queueA.startIfPrimed g.startA
    queueB := s.sound.queueB.startIfPrimed g.startB } }

/-! ### Voice capture (R94 to R97) -/

def captureCapacity : Nat := 1024

/-- The samples of one VOICE cell (R97). -/
def voiceBlock : Nat := 240

/-- A microphone sample through the capture gain (R94). -/
def State.captureValue (raw : Int) (s : State) : Int :=
  saturate (-32768) 32767 (scaleByGain raw s.sound.audio.captureGain)

/-- A sample offered to the Capture Queue (R95). -/
def State.offerCapture (e : CaptureEntry) (s : State) : State :=
  if s.sound.capture.length < captureCapacity then
    { s with sound := { s.sound with capture := s.sound.capture ++ [e] } }
  else
    ({ s with sound := { s.sound with captureGap := gapAdd s.sound.captureGap 1, captureFilling := true } }).raiseIf
      (!s.sound.captureFilling) .captureOverflow

/-- The decimator delivers a sample, stamped with the time of its tick (R94). -/
def State.microphone (raw : BitVec 16) (s : State) : State :=
  let t := s.sound.mic.due
  let s := { s with sound := { s.sound with mic := s.sound.mic.next } }
  if s.captureActive then s.offerCapture ⟨s.captureValue raw.toInt, t⟩ else s

/-- Capture stops (R96): the newest partial block leaves the queue and is counted as a gap. -/
def State.stopCapture (s : State) : State :=
  let n := s.sound.capture.length
  let kept := n - n % voiceBlock
  { s with sound := { s.sound with
    capture := s.sound.capture.take kept
    captureGap := gapAdd s.sound.captureGap (n % voiceBlock)
    captureFilling := s.sound.captureFilling && decide (captureCapacity ≤ kept) } }

/-- Capture stops at the write or push that ends it (R96); `was` says whether it was active before. -/
def State.stopCaptureIfEnded (was : Bool) (s : State) : State :=
  if was && !s.captureActive then s.stopCapture else s

/-- VOICE is ready (R97). -/
def State.voiceReady (s : State) : Bool := voiceBlock ≤ s.sound.capture.length

/-- A VOICE cell built from the 240 oldest entries (R97); none from a shorter queue. -/
def State.buildVoice (s : State) : Option (UpCell × State) :=
  match s.sound.capture with
  | [] => none
  | head :: _ =>
    if s.voiceReady then
      let block := s.sound.capture.take voiceBlock
      some (.voice head.time s.sound.captureGap (block.map (·.sample)),
        { s with sound := { s.sound with
          capture := s.sound.capture.drop voiceBlock
          captureGap := 0
          captureFilling := false } })
    else none

end Sys2Proof.Machine
end

