-- ==== Sys2Proof/Machine/Power.lean ====
section
/-! DEFINITION. The Power Unit: rule marks, the target stance, restrictive and relaxing changes, ramps and what a stance pushes (chapter 6). -/

namespace Sys2Proof.Machine

/-- The number of a stance: the greater, the more restrictive (R99). -/
def Stance.rank (x : Stance) : Nat := x.index.val

/-- The more restrictive of two stances (R99). -/
def Stance.stricter (x y : Stance) : Stance := if x.rank < y.rank then y else x

/-! ### Rule marks (R104) -/

/-- A rule's stale mark at a check (R104): the limit is in milliseconds. A latest time that reads as after the check (R2) is measured by
the same difference modulo 2^32, and so leaves the mark set: DESIGN CHOICE, log 32. -/
def State.ruleStale (k : Fin 8) (s : State) : Bool :=
  let r := s.power.rules[k]
  let x := s.sense.samples[r.slot]
  r.enabled && (!x.valid || decide (s.power.staleLimit * 1000 < distance x.time s.clock.now))

/-- A rule's active mark at a check (R104). -/
def State.ruleActive (k : Fin 8) (s : State) : Bool :=
  let r := s.power.rules[k]
  (r.enabled && s.sense.samples[r.slot].alarm) || s.ruleStale k

/-- Eight marks as a set, bit k for rule k. -/
def marksOf (f : Fin 8 → Bool) : BitVec 8 :=
  (List.finRange 8).foldl (fun m k => if f k then m ||| (1#8 <<< k.val) else m) 0

/-- The rule marks set at a check (R104), and MONITOR_STALE raised while its condition holds (R158). -/
def State.setMarks (s : State) : State :=
  let stale := marksOf fun k => s.ruleStale k
  let active := marksOf fun k => s.ruleActive k
  ({ s with power := { s.power with stale := stale, active := active } }).raiseIf (stale != 0) .monitorStale

/-- The target stance (R105). -/
def State.target (s : State) : Stance :=
  (List.finRange 8).foldl
    (fun t k => if s.power.active.getLsbD k.val then t.stricter s.power.rules[k].ceiling else t) s.power.ordered

/-! ### What a stance pushes (R111) -/

/-- The three receiving blocks act on the values as they stand after a change of the stance in effect, of its record, or of the
cap and floor in force (R111): the panels' demand and brightness, silence, capture, and the forced stop of FAST. The permissions
before the change are given; the FAST period floor acts through `effectivePeriod`. -/
def State.takePush (fastWas captureWas : Bool) (s : State) : State :=
  let s := s.followDemand.limitBrightness.emptyIfBarred.stopCaptureIfEnded captureWas
  if fastWas && !s.stance.fast then s.forceStopFast else s

/-- A change of the Power Unit's state, with the push that follows it. -/
def State.changePower (p : Power) (s : State) : State :=
  ({ s with power := p }).takePush s.stance.fast s.captureActive

/-- The stance settles: a pending STANCE_ORDER answer is placed, carrying the stance in effect and the capped flag (R110, R153). Within the service of a WRITE
to RULES it is placed before that WRITE's own answer: DESIGN CHOICE, log 33. -/
def State.settleAnswer (s : State) : State :=
  match s.mgmt.deferred with
  | none => s
  | some d =>
    let capped : Slot := if s.power.ordered.rank < s.power.inEffect.rank then 1 else 0
    let a : Answer := ⟨d.stream, d.tag, .done, none, none, [BitVec.ofNat 32 s.power.inEffect.rank, capped]⟩
    { s with mgmt := { s.mgmt with answers := s.mgmt.answers ++ [a], deferred := none } }

/-- The target becomes the stance in effect with its cap and floor in force and no ramp (R106, and R107 with a ramp time of 0). -/
def State.changeAtOnce (t : Stance) (s : State) : State :=
  let r := s.power.stances[t.index]
  let s := s.changePower { s.power with ramp := none, inEffect := t, cap := r.cap, floor := r.floor }
  (s.raise .stanceChanged).settleAnswer

/-- A relaxation with a ramp (R107, R109): permissions open at once, the cap and floor in force wait for the steps. -/
def State.startRamp (t : Stance) (s : State) : State :=
  let r := s.power.stances[t.index]
  let ramp : Ramp := ⟨s.power.cap, s.power.floor, r.cap, r.floor, s.power.rampTime / 10, 0⟩
  s.changePower { s.power with ramp := some ramp, inEffect := t }

/-- The evaluation of the target (R105): a restrictive change, a relaxation, or nothing. -/
def State.evaluate (s : State) : State :=
  let t := s.target
  if s.power.inEffect.rank < t.rank then s.changeAtOnce t
  else if t.rank < s.power.inEffect.rank then
    if s.power.rampTime = 0 then s.changeAtOnce t else s.startRamp t
  else s

/-- A ramp value after `j` of `n` steps, rounded toward the start (R108). -/
def rampValue (start goal j n : Nat) : Nat :=
  ((start : Int) + (((goal : Int) - start) * j).tdiv n).toNat

/-- One ramp step (R108). -/
def State.rampStep (r : Ramp) (s : State) : State :=
  let j := r.j + 1
  let done := r.n ≤ j
  let s := s.changePower { s.power with
    cap := if done then r.goalCap else rampValue r.startCap r.goalCap j r.n
    floor := if done then r.goalFloor else rampValue r.startFloor r.goalFloor j r.n
    ramp := if done then none else some { r with j := j } }
  if done then (s.raise .stanceChanged).settleAnswer else s

/-- The stance check (R104, R108): marks, evaluation, then a step of the ramp that the evaluation left in progress. -/
def State.stanceCheck (s : State) : State :=
  let s := { s with power := { s.power with checkDue := s.clock.now + 10000 } }
  let s := s.setMarks
  if s.target = s.power.inEffect then
    match s.power.ramp with
    | some r => s.rampStep r
    | none => s
  else s.evaluate

end Sys2Proof.Machine
end

