-- ==== Sys2Proof/Machine/Resets.lean ====
section
/-! DEFINITION. The three kinds of reset (R130): each block's own reset, the Cause record, then RESET_DONE (R166). -/

namespace Sys2Proof.Machine

/-- An emptied Management Unit (R156). -/
def Mgmt.emptied : Mgmt := ⟨[], [], none⟩

/-- A 48 kHz schedule that runs on while headset time starts again from 0 (R1, R98): the time to its next moment stands. DEDUCED, log 9. -/
def Rate48.runOn (now : Time) (r : Rate48) : Rate48 := { r with due := r.due - now }

/-- The power-on reset: every block at its power-on values; the output tick and the decimator run on (R98), and the two clock inputs and the
queue of commands stand (R118, R128, R132). -/
def State.powerOnReset (s : State) : State :=
  { State.reset with
    pending := s.pending
    sound := { State.reset.sound with tick := s.sound.tick.runOn s.clock.now, mic := s.sound.mic.runOn s.clock.now }
    clock := ⟨0, .crystal, s.clock.crystalPresent, if s.clock.crystalPresent then none else some 0⟩
    link := ⟨if s.link.clockPresent then .training else .down, 0, 0, s.link.clockPresent, none, none, LinkCounters.zero⟩ }

/-- The Sound Unit after a tether reset (R98): the tick and the decimator run on. -/
def Sound.tetherReset (x : Sound) : Sound :=
  ⟨AudioRecord.default, Playout.emptied, Playout.emptied, 0, false, x.tick, x.mic, [], 0, false, SoundPair.silent⟩

/-- The Sound Unit after a link-loss reset (R98). -/
def Sound.linkLossReset (x : Sound) : Sound :=
  { x with queueA := Playout.emptied, queueB := Playout.emptied, capture := [], captureGap := 0, captureFilling := false }

/-- The Report Assembler after a link-loss reset (R28, R29). -/
def Report.linkLossReset (r : Report) : Report := { r with queue := [], gap := 0, filling := false, expired := false }

/-- The tether reset (R130): R7, R9, R19, R24, R28, R29, R34, R43, R57, R64, R67, R98, R114, R124, R131 to R133, R156, R166. -/
def State.tetherReset (s : State) : State :=
  let t := s.clock.now
  let s := { s with
    link := { s.link with counters := LinkCounters.zero }
    cause := { s.cause with kind := .tether }
    streams := Vector.ofFn defaultStream
    mgmt := Mgmt.emptied
    events := ⟨0, 0, false, s.events.lock, false⟩
    frames := { s.frames.cancelled with superseded := 0 }
    scanout := Scanout.default
    sense := Sense.default t
    report := Report.default
    pose := Pose.cleared
    sound := s.sound.tetherReset
    power := Power.default t
    sender := { s.sender with last := .notice } }
  (s.raise .resetDone).raiseIf (s.clock.source == .fallback) .clockFallback

/-- The starved marks cleared by a link-loss reset (R64). -/
def Panel.fed (p : Panel) : Panel := { p with starved := false }

/-- The link-loss reset (R130): the tables are kept and the queues emptied; FAST is forced to STOPPED and SLOW goes on (R19, R28,
R34, R43, R64, R98, R114, R131, R132, R156, R166). -/
def State.linkLossReset (s : State) : State :=
  let s := s.stopGroup .fast
  let s := { s with
    cause := { s.cause with kind := .linkLoss }
    mgmt := Mgmt.emptied
    frames := s.frames.cancelled
    scanout := { s.scanout with left := s.scanout.left.fed, right := s.scanout.right.fed }
    report := s.report.linkLossReset
    pose := Pose.cleared
    sound := s.sound.linkLossReset
    sender := ⟨.notice, none⟩ }
  s.raise .resetDone

end Sys2Proof.Machine
end

