-- ==== Sys2Proof/Machine/Upstream.lean ====
section
/-! DEFINITION. The Upstream Sender: the bytes of upstream cells, readiness, the arbiter and the cell boundary (7.5, Table 11-4). -/

namespace Sys2Proof.Machine

/-! ### Upstream cells as bytes (Table 11-4, R141) -/

/-- A signed 16-bit quantity, least significant byte first. -/
def le16 (x : Int) : List Byte := le 2 (BitVec.ofInt 16 x).toNat

/-- The status codes of Table 11-4. -/
def Status.code : Status → Nat
  | .done => 0
  | .busy => 1
  | .refused => 2

/-- The reason codes of Table 11-4. -/
def Reason.code : Reason → Nat
  | .access => 1
  | .unknown => 2
  | .readOnly => 3
  | .locked => 4
  | .align => 5
  | .range => 6
  | .conflict => 7

/-- An ANSWER's payload: tag, status, reason or 0, field index or FFh, then the value area (Table 11-4). -/
def Answer.payload (a : Answer) : List Byte :=
  a.tag :: (le 1 a.status.code ++ le 1 ((a.reason.map Reason.code).getD 0) ++ le 1 (a.field.getD 255) ++
    a.value.flatMap fun v => le 4 v.toNat)

/-- An entry of a MOTION payload: slot, zero, corrected value, time offset (Table 11-4). -/
def MotionEntry.bytes (e : MotionEntry) : List Byte := le 1 e.slot.val ++ le 1 0 ++ le16 e.value ++ le 2 e.offset

/-- The bytes of an upstream cell: its kind code, its stream by R141, its payload by Table 11-4. -/
def UpCell.bytes : UpCell → List Byte
  | .fill => cellBytes 0x00 0 []
  | .motion base gap entries =>
    cellBytes 0x81 1 (le 4 base.toNat ++ le 2 gap ++ le 1 entries.length ++ le 1 0 ++ entries.flatMap MotionEntry.bytes)
  | .voice first gap samples => cellBytes 0x82 2 (le 4 first.toNat ++ le 2 gap ++ le 2 0 ++ samples.flatMap le16)
  | .answer a => cellBytes 0x83 a.stream.val a.payload
  | .notice kinds => cellBytes 0x84 0 (le 4 kinds.toNat)

/-! ### Readiness and grants (R126, R127) -/

/-- The readiness of the three cyclic classes at a boundary (R126). -/
def State.ready (c : CyclicClass) (s : State) : Bool :=
  match c with
  | .voice => s.voiceReady
  | .answer => !s.mgmt.answers.isEmpty
  | .notice => s.events.notice

/-- The cyclic order VOICE, ANSWER, NOTICE, beginning with the class after the last one granted (R126). -/
def CyclicClass.after : CyclicClass → List CyclicClass
  | .voice => [.answer, .notice, .voice]
  | .answer => [.notice, .voice, .answer]
  | .notice => [.voice, .answer, .notice]

/-- The oldest answer leaves the answer queue (R127, R143). -/
def State.buildAnswer (s : State) : Option (UpCell × State) :=
  match s.mgmt.answers with
  | [] => none
  | a :: rest => some (.answer a, { s with mgmt := { s.mgmt with answers := rest } })

/-- The NOTICE formed from the pending set; the slot becomes not ready (R164). -/
def State.buildNotice (s : State) : Option (UpCell × State) :=
  some (.notice s.events.pending, { s with events := { s.events with notice := false } })

/-- The cell that the owner of a cyclic class builds at its grant (R127). -/
def State.build (c : CyclicClass) (s : State) : Option (UpCell × State) :=
  match c with
  | .voice => s.buildVoice
  | .answer => s.buildAnswer
  | .notice => s.buildNotice

/-- A grant of a cyclic class: the class becomes the last one granted, its cell goes on the wire (R126). -/
def State.grantCyclic (c : CyclicClass) (s : State) : State :=
  match s.build c with
  | some (cell, s') => { s' with sender := ⟨c, some cell⟩ }
  | none => s

/-- The cell goes on the wire with the last cyclic class as it was (R126: MOTION and FILL). -/
def State.sendCell (cell : UpCell) (s : State) : State := { s with sender := { s.sender with wire := some cell } }

/-- The grant at a cell boundary (R126): MOTION, else the first ready class in cyclic order, else FILL. -/
def State.grant (s : State) : State :=
  if s.report.motionReady then
    match s.buildMotion with
    | some (cell, s') => s'.sendCell cell
    | none => s
  else
    match s.sender.last.after.find? fun c => s.ready c with
    | some c => s.grantCyclic c
    | none => s.sendCell .fill

/-- Cells leave upstream: the link is UP and the clock source is CRYSTAL (R125). -/
def State.maySend (s : State) : Bool := s.link.state == .up && s.clock.source == .crystal

/-- A cell boundary (R125, R126): the next grant, or the idle pattern while no cell may leave. -/
def State.cellBoundary (s : State) : State :=
  if s.maySend then s.grant else { s with sender := { s.sender with wire := none } }

/-- The link becomes UP (R125): a boundary occurs at once and the first grant is made. While a cell sent before is still on the wire it is
sent to its end, which is then the next boundary: DEDUCED, log 30. -/
def State.firstBoundary (s : State) : State := if s.sender.wire.isNone then s.cellBoundary else s

/-- Some class is ready (R126). -/
def State.anyReady (s : State) : Bool := s.report.motionReady || s.voiceReady || !s.mgmt.answers.isEmpty || s.events.notice

/-- In the part's own run, the cell on the wire ends before time passes, unless the lane would only go on with FILL or with the
idle pattern (R125). DESIGN CHOICE, log 21. -/
def State.boundaryDue (s : State) : Bool :=
  match s.sender.wire with
  | none => s.maySend
  | some .fill => !s.maySend || s.anyReady
  | some _ => true

end Sys2Proof.Machine
end

