-- ==== Sys2Proof/Machine/Link.lean ====
section
/-! DEFINITION. The Tether Receiver and the Clock Supervisor: header runs, link states, the clock watches, discards and counters (chapter 7). -/

namespace Sys2Proof.Machine

def State.setLink (l : Link) (s : State) : State := { s with link := l }

/-! ### Entering and leaving UP (R118 to R121) -/

/-- The link enters LOST (R119), and the other blocks act on leaving UP (Table 7-2). -/
def State.enterLost (s : State) : State :=
  let s := s.setLink { s.link with
    state := .lost
    goodRun := 0
    badRun := 0
    hold := some (s.clock.now + 250000)
    counters := { s.link.counters with losses := s.link.counters.losses + 1 } }
  s.blackOut.emptyIfBarred.abandonFilling

/-- The link recovers from LOST (R120), and grants resume at once (R125, Table 7-2). -/
def State.recover (s : State) : State :=
  let s := s.setLink { s.link with
    state := .up
    goodRun := 0
    badRun := 0
    hold := none
    counters := { s.link.counters with recoveries := s.link.counters.recoveries + 1 } }
  (s.raise .linkRecovered).firstBoundary

/-- A header that passed its check (R118 to R120): the eighth in a row makes the link UP, and the first grant is made at once (R125). -/
def State.goodHeader (s : State) : State :=
  match s.link.state with
  | .down => s
  | .training =>
    if 7 ≤ s.link.goodRun then (s.setLink { s.link with state := .up, goodRun := 0, badRun := 0 }).firstBoundary
    else s.setLink { s.link with goodRun := s.link.goodRun + 1 }
  | .up => s.setLink { s.link with badRun := 0 }
  | .lost => if 7 ≤ s.link.goodRun then s.recover else s.setLink { s.link with goodRun := s.link.goodRun + 1 }

/-- A header that failed its check (R118 to R120): the fourth in a row in UP makes the link enter LOST. -/
def State.badHeader (s : State) : State :=
  match s.link.state with
  | .down => s
  | .training | .lost => s.setLink { s.link with goodRun := 0 }
  | .up => if 3 ≤ s.link.badRun then s.enterLost else s.setLink { s.link with badRun := s.link.badRun + 1 }

/-! ### Discards (R122) -/

/-- The counter of a discard rises by one (Table 7-3). -/
def LinkCounters.countDiscard (d : Discard) (c : LinkCounters) : LinkCounters :=
  match d with
  | .badHeader => { c with badHeader := c.badHeader + 1 }
  | .unknownKind => { c with unknownKind := c.unknownKind + 1 }
  | .runt => { c with runt := c.runt + 1 }
  | .badPayload => { c with badPayload := c.badPayload + 1 }

/-- A cell discarded by the receiver (R122): its header counts in the runs, one counter rises and CELL_ERRORS is raised. -/
def State.discardCell (d : Discard) (s : State) : State :=
  let s := if d = .badHeader then s.badHeader else s.goodHeader
  (s.setLink { s.link with counters := s.link.counters.countDiscard d }).raise .cellErrors

/-- Cells are framed: the link is not DOWN and the recovered clock is present (R117, R123). -/
def State.receiving (s : State) : Bool := s.link.state != .down && s.link.clockPresent

/-- The band-length check, step 6 of Table 7-3; it passes where no length can be expected (R122). -/
def State.bandLengthOk (eye band : Byte) (rows : List Byte) (s : State) : Bool :=
  match eyeOf eye with
  | none => true
  | some e =>
    let p := s.panel e
    if band.toNat < p.bandCount then rows.length == p.bandRows band.toNat * p.renderedWidth * 3 else true

/-- The first check of Table 7-3 that a framed cell fails; none when it passes all six. -/
def State.discardOf (framed : List Byte) (s : State) : Option Discard :=
  match receiveBytes framed with
  | .error d => some d
  | .ok (.picBand _ _ eye band rows) => if s.bandLengthOk eye band rows then none else some .runt
  | .ok _ => none

/-- A framed cell that fails a check is discarded (R122); one that passes is no discarded cell and changes nothing (log 3). -/
def State.discardFramed (framed : List Byte) (s : State) : State :=
  if s.receiving then
    match s.discardOf framed with
    | some d => s.discardCell d
    | none => s
  else s

/-! ### The recovered clock (R117, R118, R120) -/

/-- The recovered clock becomes absent (R117): a cell that had begun is cut short, and the clock-loss timer starts. -/
def State.clockStops (cut : List Byte) (s : State) : State :=
  if s.link.clockPresent then
    let s := if cut.isEmpty then s else s.discardFramed cut
    s.setLink { s.link with clockPresent := false, clockLoss := some 0 }
  else s

/-- The recovered clock returns (R117, R118). -/
def State.clockReturns (s : State) : State :=
  if s.link.clockPresent then s
  else
    let l := { s.link with clockPresent := true, clockLoss := none }
    s.setLink (if l.state = .down then { l with state := .training, goodRun := 0 } else l)

/-- The clock-loss time in microseconds (R117). -/
def clockLossTime : Nat := 20

/-- The clock-loss expiry (R117, Table 7-1), taken when the timer's count reaches 20: DEDUCED, log 10. -/
def State.clockLossExpires (s : State) : State :=
  match s.link.clockLoss with
  | none => s
  | some n =>
    let s := s.elapse (clockLossTime - n)
    let s := s.setLink { s.link with clockLoss := none }
    match s.link.state with
    | .down => s
    | .training => s.setLink { s.link with state := .down, goodRun := 0 }
    | .up => s.enterLost
    | .lost => s.setLink { s.link with goodRun := 0 }

/-- When the hold timer runs out, while the link is LOST (R120). -/
def State.holdDue (s : State) : Option Time := if s.link.state = .lost then s.link.hold else none

/-- The hold expiry (R120): the count, the link-loss reset, then DOWN or TRAINING. -/
def State.holdExpires (s : State) : State :=
  let s := s.setLink { s.link with counters := { s.link.counters with holdExpiries := s.link.counters.holdExpiries + 1 } }
  let s := s.linkLossReset
  s.setLink { s.link with
    state := if s.link.clockPresent then .training else .down
    goodRun := 0
    badRun := 0
    hold := none }

/-! ### The crystal (R128, R129) -/

/-- The crystal stops (R128). Under FALLBACK only the input is noted: log 22. -/
def State.crystalStops (s : State) : State :=
  if s.clock.crystalPresent then
    { s with clock := { s.clock with
      crystalPresent := false
      watch := if s.clock.source = .crystal then some 0 else none } }
  else s

/-- The crystal returns (R128): before the expiry it ends the absence; after the switch it is ignored. -/
def State.crystalReturns (s : State) : State := { s with clock := { s.clock with crystalPresent := true, watch := none } }

/-- The crystal-loss time in microseconds (R128). -/
def crystalLossTime : Nat := 50

/-- The crystal-loss expiry (R128): FALLBACK, its flag and its event, and the push to the blocks that depend on it. -/
def State.crystalLossExpires (s : State) : State :=
  match s.clock.watch with
  | none => s
  | some n =>
    let s := s.elapse (crystalLossTime - n)
    let s := { s with
      clock := { s.clock with source := .fallback, watch := none }
      cause := { s.cause with fallback := true } }
    (s.raise .clockFallback).blackOut.emptyIfBarred

end Sys2Proof.Machine
end

