-- ==== Sys2Proof/Machine/Cells.lean ====
section
/-! DEFINITION. Downstream cells: hand-on, admission, dispatch and counting (R123, R135 to R138). -/

namespace Sys2Proof.Machine

/-- What a meaning answers. -/
abbrev Result := Host.Outcome State Fault Refusal

/-! ### Hand-on, admission and counting -/

/-- A cell counted on its stream as accepted or discarded (R137). -/
def State.countCell (stream : Fin 32) (taken : Bool) (s : State) : State :=
  let e := s.streams[stream]
  let e := if taken then { e with accepted := e.accepted + 1 } else { e with discarded := e.discarded + 1 }
  { s with streams := s.streams.set stream.val e }

/-- A cell that passed every check is handed to the Stream Filter (R123). -/
def State.handOn (s : State) : State :=
  s.setLink { s.link with counters := { s.link.counters with handedOn := s.link.counters.handedOn + 1 } }

/-- A good cell arrives (R118 to R120, R123, R135 to R137): its header counts, it is handed on, it is admitted by its stream's entry as
it then stands or discarded there, and it is counted by what its block makes of it. -/
def State.arrive (stream : Fin 32) (admits : StreamEntry → Bool) (deliver : StreamEntry → State → Bool × State) (s : State) : State :=
  let s := s.goodHeader.handOn
  let e := s.streams[stream]
  if admits e then
    let r := deliver e s
    r.2.countCell stream r.1
  else s.countCell stream false

/-- An entry that admits the cells of one kind (Table 8-2). -/
def admitsKind (kind : Accepts) (e : StreamEntry) : Bool := e.enabled && e.accepts == kind

/-- The signed pairs of a SOUND cell (R82, R170). -/
def soundPairs (pairs : List (BitVec 24 × BitVec 24)) : List SoundPair := pairs.map fun p => ⟨p.1.toInt, p.2.toInt⟩

/-- The capacity of the request queue and of the answer queue (R142, R143). -/
def queueDepth : Nat := 8

/-- An ASK at the Management Unit (R142); the answer says whether it was taken. -/
def State.takeAsk (r : Request) (s : State) : Bool × State :=
  if s.mgmt.requests.length < queueDepth then
    (true, { s with mgmt := { s.mgmt with requests := s.mgmt.requests ++ [r] } })
  else (false, s.raise .requestOverrun)

/-- A command's effect while cells are framed; otherwise no cell arrives (R117, R123, log 3). -/
def State.whenReceiving (f : State → State) (s : State) : State := if s.receiving then f s else s

end Sys2Proof.Machine
end

