-- ==== Sys2Proof/Machine/Operands.lean ====
section
/-! DEFINITION. The operand forms of management requests: operation codes, table codes and sizes, masks and images, and the codings of the fields (chapter 9, R171, R172). -/

namespace Sys2Proof.Machine

/-! ### Tables (Table 9-2, Table 11-6) -/

/-- The nineteen tables, in the order of Table 9-2. -/
inductive Table
  | streams
  | channels
  | groups
  | panels
  | scanout
  | audio
  | report
  | stances
  | stanceLimits
  | rules
  | senseState
  | snapshot
  | slots
  | pose
  | queues
  | powerState
  | events
  | counters
  | cause
  deriving DecidableEq, Repr

/-- The nineteen tables in code order (R171). -/
def allTables : List Table :=
  [.streams, .channels, .groups, .panels, .scanout, .audio, .report, .stances, .stanceLimits, .rules, .senseState, .snapshot,
    .slots, .pose, .queues, .powerState, .events, .counters, .cause]

/-- The table that a table operand names: its position in Table 9-2 (R171). -/
def tableOf (code : Byte) : Option Table := allTables[code.toNat]?

/-- The number of entries (Table 9-2). -/
def Table.entries : Table → Nat
  | .streams => 32
  | .channels => 16
  | .groups => 2
  | .panels => 2
  | .stances => 4
  | .rules => 8
  | .senseState => 16
  | .slots => 3
  | .scanout | .audio | .report | .stanceLimits | .snapshot | .pose | .queues | .powerState | .events | .counters | .cause => 1

/-- The writable slots of an entry (Table 11-6). -/
def Table.writableSlots : Table → Nat
  | .streams => 4
  | .channels => 10
  | .groups => 4
  | .panels => 9
  | .scanout => 2
  | .audio => 9
  | .report => 2
  | .stances => 7
  | .stanceLimits => 2
  | .rules => 3
  | .senseState | .snapshot | .slots | .pose | .queues | .powerState | .events | .counters | .cause => 0

/-- All slots of an entry; 0 for SNAPSHOT, whose image varies (Table 11-6, R173). -/
def Table.allSlots : Table → Nat
  | .streams => 6
  | .channels => 10
  | .groups => 7
  | .panels => 14
  | .scanout => 3
  | .audio => 9
  | .report => 2
  | .stances => 7
  | .stanceLimits => 2
  | .rules => 3
  | .senseState => 10
  | .snapshot => 0
  | .slots => 12
  | .pose => 7
  | .queues => 16
  | .powerState => 11
  | .events => 7
  | .counters => 73
  | .cause => 2

/-- The fields of an entry, those a mask bit can name (R172). The optional and two-slot fields make SLOTS, POSE and QUEUES
shorter than their slots; SNAPSHOT counts its entries as they stand: DESIGN CHOICE, log 17. -/
def State.fieldCount (t : Table) (s : State) : Nat :=
  match t with
  | .slots => 10
  | .pose => 4
  | .queues => 15
  | .snapshot => 3 + 3 * s.sense.snapshot.entries.length
  | t => t.allSlots

/-! ### Requests (R142, R144, R171) -/

/-- The table a READ or WRITE names; none when the operand is missing or names no table. -/
def Request.table (r : Request) : Option Table := r.operands.head?.bind tableOf

/-- The mask of a WRITE, its bytes 2 to 5 after the table and index (R171); none when the operands end before it ends. -/
def Request.mask (r : Request) : Option (BitVec 32) :=
  if r.operands.length < 6 then none else some (BitVec.ofNat 32 (ofLe ((r.operands.drop 2).take 4)))

/-- The command that serves a request: the row of its operation and table. A request that names no defined operation is served,
and refused UNKNOWN, by READ: DESIGN CHOICE, log 7. -/
def Request.service (r : Request) : Instr :=
  match r.op.toNat with
  | 0x01 => if r.table = some .snapshot then .readSnapshot else .read
  | 0x02 =>
    match r.table with
    | some .streams => .writeStreams
    | some .channels => .writeChannels
    | some .groups => .writeGroups
    | some .panels => .writePanels
    | some .scanout => .writeScanout
    | some .audio => .writeAudio
    | some .report => .writeReport
    | some .stances => .writeStances
    | some .stanceLimits => .writeStanceLimits
    | some .rules => .writeRules
    | _ => .write
  | 0x03 => .descRead
  | 0x10 => .eventsClear
  | 0x11 => .eventsEnable
  | 0x12 => .eventsDisable
  | 0x13 => .eventsInject
  | 0x14 => .gate
  | 0x15 => .lockLive
  | 0x20 => .groupStart
  | 0x21 => .groupStop
  | 0x22 => .rangeClear
  | 0x23 => .extremesClear
  | 0x30 => .stanceOrder
  | 0x31 => .countersClear
  | _ => .read

/-! ### Access (R139, Table 8-4) -/

/-- A mask that names no field outside a set of fields. -/
def maskWithin (mask allowed : BitVec 32) : Bool := mask &&& ~~~allowed == 0

/-- What a LIMITED stream may do (Table 8-4). An empty mask names no field outside the row, and a READ whose table operand is
missing names no table: DEDUCED, log 15. -/
def Request.limitedMay (r : Request) : Bool :=
  match r.op.toNat with
  | 0x01 => r.operands.isEmpty || r.table.isSome
  | 0x02 =>
    match r.table, r.mask with
    | some .panels, some m => maskWithin m 0x100#32
    | some .audio, some m => maskWithin m 0xF0#32
    | _, _ => false
  | 0x03 => true
  | 0x10 => true
  | _ => false

/-- The access check of a request at its service, by its stream's entry as it then stands (R139). -/
def State.mayAccess (r : Request) (s : State) : Bool :=
  let e := s.streams[r.stream]
  e.enabled && e.accepts == .ask && (match e.access with
    | .full => true
    | .limited => r.limitedMay)

/-! ### Masked fields of a WRITE (R148, R172) -/

/-- Slot `k` of an entry image. -/
def imageSlot (image : List Byte) (k : Nat) : Slot := BitVec.ofNat 32 (ofLe ((image.drop (4 * k)).take 4))

/-- Field `k` as a write leaves it: the decoded slot if the mask names it, else the old value; the error names a field whose slot
its coding and range do not allow (R148, R172). -/
def maskedField {α : Type} (mask : BitVec 32) (image : List Byte) (k : Nat) (decode : Slot → Option α) (old : α) : Except Nat α :=
  if mask.getLsbD k then
    match decode (imageSlot image k) with
    | some v => .ok v
    | none => .error k
  else .ok old

/-- The lowest-numbered masked field that a test picks (R145). -/
def lowestField (mask : BitVec 32) (pick : Nat → Bool) : Option Nat := (List.range 32).find? fun k => mask.getLsbD k && pick k

/-- Yes and no (R172). -/
def decodeBool (v : Slot) : Option Bool :=
  match v.toNat with
  | 0 => some false
  | 1 => some true
  | _ => none

/-- A structural number with its range (R148). -/
def decodeIn (lo hi : Nat) (v : Slot) : Option Nat := if lo ≤ v.toNat ∧ v.toNat ≤ hi then some v.toNat else none

/-- A level number, clamped to its range (R148). -/
def decodeClamped (lo hi : Nat) (v : Slot) : Option Nat := some (max lo (min hi v.toNat))

/-- A structural signed field of 16 bits, sign-extended in its slot (R172). -/
def decodeSigned16 (v : Slot) : Option Int := if -32768 ≤ v.toInt ∧ v.toInt ≤ 32767 then some v.toInt else none

/-! ### Enumerations: the position of a value in its chapter's list (R172) -/

def Accepts.code : Accepts → Nat
  | .none => 0
  | .picture => 1
  | .sound => 2
  | .ask => 3

def decodeAccepts (v : Slot) : Option Accepts :=
  match v.toNat with
  | 0 => some .none
  | 1 => some .picture
  | 2 => some .sound
  | 3 => some .ask
  | _ => none

def Sink.code : Sink → Nat
  | .a => 0
  | .b => 1

def decodeSink (v : Slot) : Option Sink :=
  match v.toNat with
  | 0 => some .a
  | 1 => some .b
  | _ => none

def Access.code : Access → Nat
  | .full => 0
  | .limited => 1

def decodeAccess (v : Slot) : Option Access :=
  match v.toNat with
  | 0 => some .full
  | 1 => some .limited
  | _ => none

/-- Source NONE is coded 16 (R172). -/
def sourceCode (x : Option (Fin 16)) : Nat :=
  match x with
  | none => 16
  | some k => k.val

def decodeSource (v : Slot) : Option (Option (Fin 16)) :=
  if h : v.toNat < 16 then some (some ⟨v.toNat, h⟩) else if v.toNat = 16 then some none else none

def GroupField.code : GroupField → Nat
  | .none => 0
  | .fast => 1
  | .slow => 2

def decodeGroupField (v : Slot) : Option GroupField :=
  match v.toNat with
  | 0 => some .none
  | 1 => some .fast
  | 2 => some .slow
  | _ => none

def Role.code : Role → Nat
  | .none => 0
  | .yaw => 1
  | .pitch => 2

def decodeRole (v : Slot) : Option Role :=
  match v.toNat with
  | 0 => some .none
  | 1 => some .yaw
  | 2 => some .pitch
  | _ => none

def RangeMode.code : RangeMode → Nat
  | .off => 0
  | .outside => 1
  | .inside => 2

def decodeRangeMode (v : Slot) : Option RangeMode :=
  match v.toNat with
  | 0 => some .off
  | 1 => some .outside
  | 2 => some .inside
  | _ => none

def Side.code : Side → Nat
  | .none => 0
  | .above => 1
  | .below => 2
  | .within => 3

def ScanMode.code : ScanMode → Nat
  | .once => 0
  | .continuous => 1
  | .step => 2

def decodeScanMode (v : Slot) : Option ScanMode :=
  match v.toNat with
  | 0 => some .once
  | 1 => some .continuous
  | 2 => some .step
  | _ => none

def Trigger.code : Trigger → Nat
  | .timer => 0
  | .latch => 1
  | .order => 2

def decodeTrigger (v : Slot) : Option Trigger :=
  match v.toNat with
  | 0 => some .timer
  | 1 => some .latch
  | 2 => some .order
  | _ => none

def GroupPhase.code : GroupPhase → Nat
  | .stopped => 0
  | .armed => 1
  | .passing => 2
  | .held => 3

def PanelPower.code : PanelPower → Nat
  | .off => 0
  | .starting => 1
  | .on => 2
  | .stopping => 3

/-- The refresh code is held as its rate, 72 to 144 (Table 11-6). -/
def RefreshCode.code : RefreshCode → Nat
  | .hz72 => 72
  | .hz80 => 80
  | .hz90 => 90
  | .hz120 => 120
  | .hz144 => 144

def decodeRefresh (v : Slot) : Option RefreshCode :=
  match v.toNat with
  | 72 => some .hz72
  | 80 => some .hz80
  | 90 => some .hz90
  | 120 => some .hz120
  | 144 => some .hz144
  | _ => none

def SlotPhase.code : SlotPhase → Nat
  | .empty => 0
  | .filling => 1
  | .closing => 2
  | .ready => 3
  | .showing => 4

def PlayPhase.code : PlayPhase → Nat
  | .idle => 0
  | .priming => 1
  | .playing => 2

def ResetKind.code : ResetKind → Nat
  | .powerOn => 0
  | .tether => 1
  | .linkLoss => 2

/-- The stance of a number (R99); none above 3. -/
def stanceOf (n : Nat) : Option Stance :=
  match n with
  | 0 => some .full
  | 1 => some .reduced
  | 2 => some .minimal
  | 3 => some .standby
  | _ => none

def decodeStance (v : Slot) : Option Stance := stanceOf v.toNat

def decodeSlotNumber (v : Slot) : Option (Fin 16) := if h : v.toNat < 16 then some ⟨v.toNat, h⟩ else none

/-- The group of a group operand: 0 FAST, 1 SLOW (R171). -/
def groupOf (code : Byte) : Option ScanGroup :=
  match code.toNat with
  | 0 => some .fast
  | 1 => some .slow
  | _ => none

/-- The event set of a 4-byte operand; none for a mark outside the 21 kinds (R151, R172). -/
def eventSetOf (bytes : List Byte) : Option EventSet :=
  let n := ofLe (bytes.take 4)
  if n < 2 ^ 21 then some (BitVec.ofNat 21 n) else none

/-! ### The descriptor (R154, R173) -/

/-- A descriptor record: kind, length, next offset and two bytes of zero, then the body (R173). -/
def descRecord (kind next : Nat) (body : List Byte) : List Byte :=
  le 2 kind ++ le 2 (body.length + 8) ++ le 2 next ++ [0#8, 0#8] ++ body

/-- A SOURCES entry (R173). -/
def descSource (number kind : Nat) (least greatest : Int) (hint : Nat) : List Byte :=
  le 1 number ++ le 1 kind ++ le 2 (BitVec.ofInt 16 least).toNat ++ le 2 (BitVec.ofInt 16 greatest).toNat ++ le 2 hint

def descIdentity : List Byte := descRecord 1 24 (le 4 0xA17 ++ le 4 0x6080 ++ le 4 1 ++ le 4 117964800)

def descPanelLimits : List Byte :=
  descRecord 2 60 ([1024, 2304, 16, 128, 16, 160, 7, 1023, 5, 72, 80, 90, 120, 144].flatMap (le 2))

def descSources : List Byte :=
  descRecord 3 196 (
    descSource 0 0 (-32768) 32767 1 ++ descSource 1 0 (-32768) 32767 1 ++ descSource 2 0 (-32768) 32767 1 ++
    descSource 3 0 (-32768) 32767 2 ++ descSource 4 0 (-32768) 32767 2 ++ descSource 5 0 (-32768) 32767 2 ++
    descSource 6 1 0 4095 3 ++ descSource 7 1 0 4095 4 ++ descSource 8 1 0 4095 3 ++ descSource 9 1 0 4095 0 ++
    descSource 10 1 0 4095 0 ++ descSource 11 1 0 4095 0 ++ descSource 12 1 0 4095 0 ++ descSource 13 1 0 4095 0 ++
    descSource 14 2 0 4095 5 ++ descSource 15 2 2048 2048 6)

def descAudioLimits : List Byte :=
  descRecord 4 224 (le 2 1024 ++ le 2 128 ++ le 4 48000 ++ le 2 192 ++ le 2 32 ++ le 2 480 ++ le 2 1024 ++ le 2 240 ++ le 2 0)

def descTableSizes : List Byte :=
  descRecord 5 0 (allTables.zipIdx.flatMap fun t =>
    le 1 t.2 ++ le 1 0 ++ le 2 t.1.entries ++ le 2 t.1.writableSlots ++ le 2 t.1.allSlots)

/-- The descriptor image, 384 bytes (R154, R173). -/
def descriptor : List Byte := descIdentity ++ descPanelLimits ++ descSources ++ descAudioLimits ++ descTableSizes

/-- Bytes as 4-byte slots (R172). -/
def slotsOfBytes (count : Nat) (bytes : List Byte) : List Slot := (List.range count).map (imageSlot bytes)

end Sys2Proof.Machine
end

