-- ==== Sys2Proof/Machine/Images.lean ====
section
/-! DEFINITION. The entry images that a READ and a DONE WRITE answer with: every field of an entry in the field order of Table 11-6 (R147, R172). -/

namespace Sys2Proof.Machine

def slotNat (n : Nat) : Slot := BitVec.ofNat 32 n
def slotInt (x : Int) : Slot := BitVec.ofInt 32 x
def slotBool (b : Bool) : Slot := if b then 1 else 0

/-- A 48-bit accumulator: the low 32 bits, then the high 16 bits sign-extended (R172). -/
def slots48 (v : BitVec 48) : List Slot := [v.setWidth 32, (v.extractLsb' 32 16).signExtend 32]

/-- A field that may be absent: presence, then the value or 0 (R172). -/
def slotsOption (x : Option Slot) : List Slot :=
  match x with
  | none => [0, 0]
  | some v => [1, v]

def StreamEntry.image (e : StreamEntry) : List Slot :=
  [slotBool e.enabled, slotNat e.accepts.code, slotNat e.sink.code, slotNat e.access.code, e.accepted, e.discarded]

def Channel.image (c : Channel) : List Slot :=
  [slotNat (sourceCode c.source), slotNat c.group.code, slotNat c.role.code, slotBool c.report, slotInt c.offset, slotNat c.gain,
    slotNat c.rangeMode.code, slotInt c.lower, slotInt c.upper, slotNat c.persist]

/-- A GROUPS entry (R9). -/
def State.groupImage (g : ScanGroup) (s : State) : List Slot :=
  let x := s.group g
  [slotNat x.mode.code, slotNat x.trigger.code, slotNat x.period, slotBool x.hold, slotNat x.phase.code, x.passes,
    slotNat (s.effectivePeriod g)]

def Panel.image (p : Panel) : List Slot :=
  [slotNat p.width, slotNat p.height, slotNat p.marginH, slotNat p.marginV, slotNat p.kH, slotNat p.kV, slotBool p.shiftEnable,
    slotNat p.repeatLimit, slotNat p.setpoint, slotNat p.power.code, slotInt p.dx, slotInt p.dy, slotNat p.shown, slotBool p.starved]

def Scanout.image (x : Scanout) : List Slot := [slotBool x.enable, slotNat x.refresh.code, x.latchCount]

def AudioRecord.image (a : AudioRecord) : List Slot :=
  [slotNat a.startA, slotNat a.startB, slotNat a.slipLow, slotNat a.slipHigh, slotNat a.gainA, slotNat a.gainB,
    slotNat a.masterGain, slotNat a.captureGain, slotBool a.captureEnable]

def Report.image (r : Report) : List Slot := [slotNat r.threshold, slotNat r.ageLimit]

def StanceRecord.image (x : StanceRecord) : List Slot :=
  [slotNat x.cap, slotNat x.floor, slotNat x.fastFloor, slotBool x.panels, slotBool x.sound, slotBool x.voice, slotBool x.fast]

def Power.limitsImage (p : Power) : List Slot := [slotNat p.staleLimit, slotNat p.rampTime]

def Rule.image (r : Rule) : List Slot := [slotBool r.enabled, slotNat r.slot.val, slotNat r.ceiling.rank]

def SampleState.image (x : SampleState) : List Slot :=
  [slotInt x.value, x.time, slotBool x.valid, slotInt x.min, slotInt x.max, slotBool x.extremesValid, slotNat x.run,
    slotBool x.alarm, slotBool x.sticky, slotNat x.side.code]

def Snapshot.image (x : Snapshot) : List Slot :=
  [x.start, slotBool x.taken, slotNat x.entries.length] ++
    x.entries.flatMap fun e => [slotNat e.slot.val, slotInt e.value, slotBool e.valid]

/-- A SLOTS entry (R41): each set of bands is reported as its count beside the eye's present band count. -/
def State.slotImage (i : Fin 3) (s : State) : List Slot :=
  let f := s.frames.slots[i]
  [slotNat f.phase.code] ++ slotsOption (f.frame.map fun n => n.setWidth 32) ++ slotsOption f.renderTime ++
    [slotBool f.noShift, slotNat f.left.length, slotNat s.scanout.left.bandCount, slotNat f.right.length,
      slotNat s.scanout.right.bandCount, slotNat (s.outstanding i), slotNat f.repeats]

/-- The POSE entry (R34). -/
def Pose.image (p : Pose) : List Slot :=
  slots48 p.yaw ++ slots48 p.pitch ++ [slotNat p.history.length] ++ slotsOption (p.history.getLast?.map (·.time))

def Playout.image (q : Playout) : List Slot := [slotNat q.phase.code, slotNat q.pairs.length, slotNat q.fade]

/-- The QUEUES entry (R28, R82, R95, R153); the reservation mark serves as the presence of the pending stream and tag. -/
def State.queuesImage (s : State) : List Slot :=
  let d := match s.mgmt.deferred with
    | none => [0, 0, 0]
    | some d => [1, slotNat d.stream.val, slotNat d.tag.toNat]
  [slotNat s.report.queue.length, slotNat s.report.gap] ++ s.sound.queueA.image ++ s.sound.queueB.image ++
    [slotNat s.sound.capture.length, slotNat s.sound.captureGap, slotBool s.captureActive, slotNat s.mgmt.requests.length,
      slotNat s.mgmt.answers.length] ++ d

/-- The POWER_STATE entry (R112): the goals and steps are given as 0 while SETTLED (R172). -/
def Power.image (p : Power) : List Slot :=
  let r := match p.ramp with
    | none => [0, 0, 0, 0]
    | some r => [slotNat r.goalCap, slotNat r.goalFloor, slotNat r.n, slotNat r.j]
  [slotNat p.ordered.rank, slotNat p.inEffect.rank, slotBool p.ramp.isSome, slotNat p.cap, slotNat p.floor] ++ r ++
    [p.active.setWidth 32, p.stale.setWidth 32]

/-- The EVENTS entry (R159). -/
def State.eventsImage (s : State) : List Slot :=
  let e := s.events
  [e.raised.setWidth 32, e.enabled.setWidth 32, e.pending.setWidth 32, s.levelConditions.setWidth 32, slotBool e.gateOpen,
    slotBool e.lock, slotBool e.notice]

/-- The COUNTERS entry (R124, R57, R133). -/
def State.countersImage (s : State) : List Slot :=
  let c := s.link.counters
  [c.handedOn, c.badHeader, c.unknownKind, c.runt, c.badPayload, c.losses, c.recoveries, c.holdExpiries, s.frames.superseded] ++
    s.streams.toList.flatMap fun e => [e.accepted, e.discarded]

def Cause.image (c : Cause) : List Slot := [slotNat c.kind.code, slotBool c.fallback]

/-- The image of entry `i` of a table (Table 11-6); none for an index at or above the table's entry count. -/
def State.entryImage (t : Table) (i : Nat) (s : State) : Option (List Slot) :=
  match t with
  | .streams => if h : i < 32 then some s.streams[i].image else none
  | .channels => if h : i < 16 then some s.sense.channels[i].image else none
  | .groups =>
    match i with
    | 0 => some (s.groupImage .fast)
    | 1 => some (s.groupImage .slow)
    | _ => none
  | .panels =>
    match i with
    | 0 => some s.scanout.left.image
    | 1 => some s.scanout.right.image
    | _ => none
  | .scanout => if i = 0 then some s.scanout.image else none
  | .audio => if i = 0 then some s.sound.audio.image else none
  | .report => if i = 0 then some s.report.image else none
  | .stances => if h : i < 4 then some s.power.stances[i].image else none
  | .stanceLimits => if i = 0 then some s.power.limitsImage else none
  | .rules => if h : i < 8 then some s.power.rules[i].image else none
  | .senseState => if h : i < 16 then some s.sense.samples[i].image else none
  | .snapshot => if i = 0 then some s.sense.snapshot.image else none
  | .slots => if h : i < 3 then some (s.slotImage ⟨i, h⟩) else none
  | .pose => if i = 0 then some s.pose.image else none
  | .queues => if i = 0 then some s.queuesImage else none
  | .powerState => if i = 0 then some s.power.image else none
  | .events => if i = 0 then some s.eventsImage else none
  | .counters => if i = 0 then some s.countersImage else none
  | .cause => if i = 0 then some s.cause.image else none

end Sys2Proof.Machine
end

