-- ==== Sys2Proof/Machine/Requests.lean ====
section
/-! DEFINITION. The service of management requests: the check order, answers, READ, DESC_READ, the operations on events, groups, slots, stance and counters (chapter 9). -/

namespace Sys2Proof.Machine

/-! ### Service (R143 to R145) -/

/-- What becomes of a request at its service (Table 9-1): a refusal or BUSY changes nothing, DONE gives the value area and the new
state, a deferred STANCE_ORDER is answered later (R153). -/
inductive Verdict
  | refused (reason : Reason) (field : Option Nat)
  | busy (field : Option Nat)
  | done (value : List Slot) (s : State)
  | deferred (s : State)

/-- The fill of the answer queue: the answers held, and one for the reservation (R143). -/
def Mgmt.fill (m : Mgmt) : Nat := m.answers.length + (if m.deferred.isSome then 1 else 0)

/-- The oldest request can be served (R144). -/
def State.servable (s : State) : Bool := !s.mgmt.requests.isEmpty && decide (s.mgmt.fill < queueDepth)

/-- An answer placed at the tail of the answer queue (R143). -/
def State.placeAnswer (a : Answer) (s : State) : State := { s with mgmt := { s.mgmt with answers := s.mgmt.answers ++ [a] } }

/-- A verdict turned into the state after the service (R144, R145, R153): a request carried out has its effect, then its answer is placed,
behind a stance answer that the effect itself has placed (DESIGN CHOICE, log 33). -/
def State.conclude (r : Request) (v : Verdict) (s : State) : State :=
  match v with
  | .refused why field => s.placeAnswer ⟨r.stream, r.tag, .refused, some why, field, []⟩
  | .busy field => s.placeAnswer ⟨r.stream, r.tag, .busy, none, field, []⟩
  | .done value s' => s'.placeAnswer ⟨r.stream, r.tag, .done, none, none, value⟩
  | .deferred s' => { s' with mgmt := { s'.mgmt with deferred := some ⟨r.stream, r.tag⟩ } }

/-- The verdict on a request: the access check first (R139), then the checks and the effect of its operation. -/
def State.judgeRequest (act : Request → State → Verdict) (r : Request) (s : State) : Verdict :=
  if s.mayAccess r then act r s else .refused .access none

/-- The service of the oldest request by the command of its row (R144): the request leaves the queue and is judged, and its answer is
placed in the same event. Without such a request, or without room for an answer, nothing is served (log 3); that the Management Unit serves
whenever it can is in the turn of every other command (`State.inTurn`, log 6). -/
def State.serve (row : Instr) (act : Request → State → Verdict) (s : State) : State :=
  match s.mgmt.requests with
  | [] => s
  | r :: rest =>
    if s.mgmt.fill < queueDepth ∧ r.service = row then
      let s := { s with mgmt := { s.mgmt with requests := rest } }
      s.conclude r (s.judgeRequest act r)
    else s

/-- The operand bytes of a request, when at least `n` are there (R146: too few are refused UNKNOWN). -/
def Request.needing (n : Nat) (r : Request) (f : List Byte → Verdict) : Verdict :=
  if r.operands.length < n then .refused .unknown none else f r.operands

def byteAt (bytes : List Byte) (k : Nat) : Byte := bytes.getD k 0

/-! ### READ and DESC_READ (R147, R155) -/

/-- READ of a table but SNAPSHOT (R147). A request of an undefined operation is refused UNKNOWN here (R146, log 7). -/
def readAct (r : Request) (s : State) : Verdict :=
  if r.op ≠ 0x01#8 then .refused .unknown none
  else
    r.needing 2 fun bytes =>
      match r.table with
      | none => .refused .unknown none
      | some t =>
        match s.entryImage t (byteAt bytes 1).toNat with
        | none => .refused .range none
        | some image => .done image s

/-- READ of SNAPSHOT (R24, R147): the record as it stands is copied, and then marked taken. -/
def readSnapshotAct (r : Request) (s : State) : Verdict :=
  r.needing 2 fun bytes =>
    if byteAt bytes 1 ≠ 0#8 then .refused .range none else .done s.sense.snapshot.image s.takeSnapshot

/-- DESC_READ (R155). -/
def descReadAct (r : Request) (s : State) : Verdict :=
  r.needing 3 fun bytes =>
    let offset := ofLe (bytes.take 2)
    let len := (byteAt bytes 2).toNat
    if offset % 4 ≠ 0 ∨ len % 4 ≠ 0 then .refused .align none
    else if len < 4 ∨ 240 < len ∨ 384 < offset + len then .refused .range none
    else .done (slotsOfBytes (len / 4) (descriptor.drop offset)) s

/-! ### Events (R151, R160 to R165) -/

/-- The five slots of an event operation's DONE answer (R151, Table 11-5). -/
def State.eventsAnswer (s : State) : List Slot :=
  let e := s.events
  [e.raised.setWidth 32, e.enabled.setWidth 32, e.pending.setWidth 32, slotBool e.gateOpen, slotBool e.lock]

def doneEvents (s : State) : Verdict := .done s.eventsAnswer s

/-- An operation on a set of kinds (R151). -/
def eventSetAct (f : EventSet → State → State) (r : Request) (s : State) : Verdict :=
  r.needing 4 fun bytes =>
    match eventSetOf bytes with
    | none => .refused .range none
    | some kinds => doneEvents (f kinds s)

/-- EVENTS_INJECT: the LOCKED check comes before RANGE (R151, R165). -/
def eventsInjectAct (r : Request) (s : State) : Verdict :=
  r.needing 4 fun _ => if s.events.lock then .refused .locked none else eventSetAct State.injectEvents r s

/-- GATE (R151, R162). -/
def gateAct (r : Request) (s : State) : Verdict :=
  r.needing 1 fun bytes =>
    match (byteAt bytes 0).toNat with
    | 0 => doneEvents (s.setGate false)
    | 1 => doneEvents (s.setGate true)
    | _ => .refused .range none

/-- LOCK_LIVE (R151, R165). -/
def lockLiveAct (_r : Request) (s : State) : Verdict := doneEvents s.setLock

/-! ### Groups and slots (R16, R17, R23, R150) -/

/-- The DONE answer of a group operation: the group's state after it (R150). -/
def doneGroup (g : ScanGroup) (s : State) : Verdict := .done [slotNat (s.group g).phase.code] s

/-- GROUP_START at the Sense Engine, where it is not refused (R16). -/
def State.startGroup (g : ScanGroup) (s : State) : State :=
  match (s.group g).phase with
  | .stopped =>
    let s := s.armGroup g
    if g = .fast then s.clearHistory else s
  | .armed => if (s.group g).trigger = .order then (s.trigger g).arbitrate else s
  | .passing | .held => s

/-- GROUP_START (R16, R150). -/
def groupStartAct (r : Request) (s : State) : Verdict :=
  r.needing 1 fun bytes =>
    match groupOf (byteAt bytes 0) with
    | none => .refused .range none
    | some g => if g = .fast ∧ ¬ s.stance.fast then .refused .conflict none else doneGroup g (s.startGroup g)

/-- GROUP_STOP (R17, R150): on a group already STOPPED it changes nothing. -/
def groupStopAct (r : Request) (s : State) : Verdict :=
  r.needing 1 fun bytes =>
    match groupOf (byteAt bytes 0) with
    | none => .refused .range none
    | some g => doneGroup g (if (s.group g).phase = .stopped then s else s.stopGroup g)

/-- The slot set of a 2-byte operand (R171). -/
def slotSetOf (bytes : List Byte) : BitVec 16 := BitVec.ofNat 16 (ofLe (bytes.take 2))

/-- RANGE_CLEAR (R23, R150). -/
def rangeClearAct (r : Request) (s : State) : Verdict := r.needing 2 fun bytes => .done [] (s.clearRange (slotSetOf bytes))

/-- EXTREMES_CLEAR (R23, R150). -/
def extremesClearAct (r : Request) (s : State) : Verdict := r.needing 2 fun bytes => .done [] (s.clearExtremes (slotSetOf bytes))

/-! ### Stance and counters (R110, R152, R153) -/

/-- STANCE_ORDER (R110): answered at once when the stance settles at the order, else deferred (R153). -/
def stanceOrderAct (r : Request) (s : State) : Verdict :=
  r.needing 1 fun bytes =>
    match stanceOf (byteAt bytes 0).toNat with
    | none => .refused .range none
    | some x =>
      if s.power.ramp.isSome then .busy none
      else
        let s := ({ s with power := { s.power with ordered := x } }).evaluate
        if s.power.ramp.isSome then .deferred s
        else
          let capped := s.power.ordered.rank < s.power.inEffect.rank
          .done [slotNat s.power.inEffect.rank, slotBool (decide capped)] s

/-- COUNTERS_CLEAR (R152). -/
def countersClearAct (_r : Request) (s : State) : Verdict :=
  let clear (i : Fin 32) : StreamEntry := { s.streams[i] with accepted := 0, discarded := 0 }
  .done [] { s with
    streams := Vector.ofFn clear
    link := { s.link with counters := LinkCounters.zero }
    frames := { s.frames with superseded := 0 } }

/-! ### Meanings -/

/-- READ (R147). -/
def execRead (s : State) : Result := .next (s.serve .read readAct)

/-- READ_SNAPSHOT (R24, R25). -/
def execReadSnapshot (s : State) : Result := .next (s.serve .readSnapshot readSnapshotAct)

/-- DESC_READ (R155). -/
def execDescRead (s : State) : Result := .next (s.serve .descRead descReadAct)

/-- EVENTS_CLEAR (R160). -/
def execEventsClear (s : State) : Result := .next (s.serve .eventsClear (eventSetAct State.clearEvents))

/-- EVENTS_ENABLE (R161). -/
def execEventsEnable (s : State) : Result := .next (s.serve .eventsEnable (eventSetAct State.enableEvents))

/-- EVENTS_DISABLE (R161). -/
def execEventsDisable (s : State) : Result := .next (s.serve .eventsDisable (eventSetAct State.disableEvents))

/-- EVENTS_INJECT (R165). -/
def execEventsInject (s : State) : Result := .next (s.serve .eventsInject eventsInjectAct)

/-- GATE (R162). -/
def execGate (s : State) : Result := .next (s.serve .gate gateAct)

/-- LOCK_LIVE (R165). -/
def execLockLive (s : State) : Result := .next (s.serve .lockLive lockLiveAct)

/-- GROUP_START (R16). -/
def execGroupStart (s : State) : Result := .next (s.serve .groupStart groupStartAct)

/-- GROUP_STOP (R17). -/
def execGroupStop (s : State) : Result := .next (s.serve .groupStop groupStopAct)

/-- RANGE_CLEAR (R23). -/
def execRangeClear (s : State) : Result := .next (s.serve .rangeClear rangeClearAct)

/-- EXTREMES_CLEAR (R23). -/
def execExtremesClear (s : State) : Result := .next (s.serve .extremesClear extremesClearAct)

/-- STANCE_ORDER (R110). -/
def execStanceOrder (s : State) : Result := .next (s.serve .stanceOrder stanceOrderAct)

/-- COUNTERS_CLEAR (R152). -/
def execCountersClear (s : State) : Result := .next (s.serve .countersClear countersClearAct)

end Sys2Proof.Machine
end

