-- ==== Sys2Proof/Machine/Writes.lean ====
section
/-! DEFINITION. The masked WRITE (R148, R149) and what each table's owner does with it: the ten writable tables and the read-only ones. -/

namespace Sys2Proof.Machine

/-! ### Checks shared by every WRITE -/

/-- The checks of a WRITE before its fields' values (R145, R146, R148): operands long enough for the image, no mask bit past the
table's fields, no read-only field, an index within the table; then `body` with the index, the mask and the image.
`readOnly index k` says that field `k` of that entry may not be written; the refusal names the lowest such masked field, on a read-only
entry too: DEDUCED, log 16. -/
def writeAct (t : Table) (readOnly : Nat → Nat → Bool) (body : Nat → BitVec 32 → List Byte → Verdict) (r : Request) (s : State) : Verdict :=
  match r.mask with
  | none => .refused .unknown none
  | some mask =>
    let index := (byteAt r.operands 1).toNat
    if r.operands.length < 6 + 4 * t.writableSlots then .refused .unknown none
    else if (lowestField mask fun k => decide (s.fieldCount t ≤ k)).isSome then .refused .unknown none
    else
      match lowestField mask (fun k => decide (t.writableSlots ≤ k) || readOnly index k) with
      | some k => .refused .readOnly (some k)
      | none => if t.entries ≤ index then .refused .range none else body index mask (r.operands.drop 6)

/-- A DONE WRITE answers with the whole entry as it stands after the write (R149). -/
def doneWrite (t : Table) (index : Nat) (s : State) : Verdict := .done ((s.entryImage t index).getD []) s

/-- The fields decoded, or RANGE with the lowest-numbered field that fails (R145, R148). -/
def ranged {α : Type} (x : Except Nat α) (f : α → Verdict) : Verdict :=
  match x with
  | .error k => .refused .range (some k)
  | .ok v => f v

/-- The CONFLICT check (R149): each constraint with whether it holds and the fields that take part in it. The field index is the
lowest masked field that takes part in a broken constraint (R145). DEDUCED: each inequality is a constraint of its own, log 16. -/
def unlessConflict (mask : BitVec 32) (constraints : List (Bool × List Nat)) (v : Verdict) : Verdict :=
  let broken := constraints.filter fun c => !c.1
  if broken.isEmpty then v else .refused .conflict (lowestField mask fun k => broken.any fun c => c.2.contains k)

/-- A table with a WRITE that no owner acts on: the read-only tables and undefined ones (R146, R148). -/
def writeOtherAct (r : Request) (s : State) : Verdict :=
  match r.table, r.mask with
  | some t, some mask =>
    if (lowestField mask fun k => decide (s.fieldCount t ≤ k)).isSome then .refused .unknown none else .refused .readOnly none
  | _, _ => .refused .unknown none

/-! ### STREAMS (R134, R140) -/

def StreamEntry.written (mask : BitVec 32) (image : List Byte) (e : StreamEntry) : Except Nat StreamEntry := do
  let enabled ← maskedField mask image 0 decodeBool e.enabled
  let accepts ← maskedField mask image 1 decodeAccepts e.accepts
  let sink ← maskedField mask image 2 decodeSink e.sink
  let access ← maskedField mask image 3 decodeAccess e.access
  return { e with enabled := enabled, accepts := accepts, sink := sink, access := access }

/-- At most one entry of the table satisfies a test. -/
def atMostOne {α : Type} (xs : List α) (p : α → Bool) : Bool := (xs.filter p).length ≤ 1

/-- The constraints of the Stream Table (R134). -/
def streamConstraints (xs : List StreamEntry) : List (Bool × List Nat) :=
  [(atMostOne xs (admitsKind .picture), [0, 1]),
    (atMostOne xs (fun e => admitsKind .sound e && e.sink == .a), [0, 1, 2]),
    (atMostOne xs (fun e => admitsKind .sound e && e.sink == .b), [0, 1, 2])]

/-- An accepted WRITE to STREAMS: the FILLING slot is abandoned when the picture stream stops admitting (R59, R140). -/
def State.writeStream (i : Fin 32) (e : StreamEntry) (s : State) : State :=
  let stops := admitsKind .picture s.streams[i] && !admitsKind .picture e
  let s := { s with streams := s.streams.set i.val e }
  if stops then s.abandonFilling else s

def writeStreamsAct (r : Request) (s : State) : Verdict :=
  writeAct .streams (fun index _ => index == 0) (fun index mask image =>
    if h : index < 32 then
      ranged (s.streams[index].written mask image) fun e =>
        unlessConflict mask (streamConstraints (s.streams.set index e).toList)
          (doneWrite .streams index (s.writeStream ⟨index, h⟩ e))
    else .refused .range none) r s

/-! ### CHANNELS (R6, R8) -/

def Channel.written (mask : BitVec 32) (image : List Byte) (c : Channel) : Except Nat Channel := do
  let source ← maskedField mask image 0 decodeSource c.source
  let group ← maskedField mask image 1 decodeGroupField c.group
  let role ← maskedField mask image 2 decodeRole c.role
  let report ← maskedField mask image 3 decodeBool c.report
  let offset ← maskedField mask image 4 decodeSigned16 c.offset
  let gain ← maskedField mask image 5 (decodeIn 0 65535) c.gain
  let rangeMode ← maskedField mask image 6 decodeRangeMode c.rangeMode
  let lower ← maskedField mask image 7 decodeSigned16 c.lower
  let upper ← maskedField mask image 8 decodeSigned16 c.upper
  let persist ← maskedField mask image 9 (decodeClamped 1 255) c.persist
  return ⟨source, group, role, report, offset, gain, rangeMode, lower, upper, persist⟩

/-- The constraints of the Channel Table (R6). -/
def channelConstraints (xs : List Channel) : List (Bool × List Nat) :=
  [(atMostOne xs (fun c => c.role == .yaw), [2]),
    (atMostOne xs (fun c => c.role == .pitch), [2]),
    (xs.all (fun c => c.role == .none || c.group == .fast), [1, 2]),
    (xs.all (fun c => decide (c.lower ≤ c.upper)), [7, 8])]

/-- The group a slot's group field names is not STOPPED (R8). -/
def State.groupRuns (g : GroupField) (s : State) : Bool :=
  match g with
  | .none => false
  | .fast => s.sense.fast.phase != .stopped
  | .slow => s.sense.slow.phase != .stopped

/-- The sample state after an accepted write of its slot (R8). DEDUCED: a cleared record takes the values of R7, log 13. DESIGN CHOICE,
log 31: a field written with the value it had is not changed in the sense of R8's first two effects, while setting range mode to OFF is
judged by the mask. -/
def SampleState.rewritten (mask : BitVec 32) (old new : Channel) (x : SampleState) : SampleState :=
  let x := if new.source ≠ old.source ∨ new.group ≠ old.group then
      { x with value := 0, time := 0, valid := false, min := 0, max := 0, extremesValid := false } else x
  let x := if new.rangeMode ≠ old.rangeMode ∨ new.lower ≠ old.lower ∨ new.upper ≠ old.upper ∨ new.persist ≠ old.persist then
      { x with run := 0 } else x
  if mask.getLsbD 6 ∧ new.rangeMode = .off then { x with alarm := false } else x

/-- An accepted WRITE to CHANNELS (R8). -/
def State.writeChannel (k : Fin 16) (mask : BitVec 32) (c : Channel) (s : State) : State :=
  let x := s.sense.samples[k].rewritten mask s.sense.channels[k] c
  { s with sense := { s.sense with channels := s.sense.channels.set k.val c, samples := s.sense.samples.set k.val x } }

def writeChannelsAct (r : Request) (s : State) : Verdict :=
  writeAct .channels (fun _ _ => false) (fun index mask image =>
    if h : index < 16 then
      let old := s.sense.channels[index]
      ranged (old.written mask image) fun c =>
        unlessConflict mask (channelConstraints (s.sense.channels.set index c).toList)
          (if s.groupRuns old.group then .busy (lowestField mask fun _ => true)
          else if s.groupRuns c.group then .busy (lowestField mask fun k => k == 1)
          else doneWrite .channels index (s.writeChannel ⟨index, h⟩ mask c))
    else .refused .range none) r s

/-! ### GROUPS (R9) -/

/-- Hold yes is accepted on SLOW only (R9). -/
def decodeHold (g : ScanGroup) (v : Slot) : Option Bool :=
  match g, decodeBool v with
  | .fast, some true => none
  | _, x => x

def Group.written (g : ScanGroup) (mask : BitVec 32) (image : List Byte) (x : Group) : Except Nat Group := do
  let mode ← maskedField mask image 0 decodeScanMode x.mode
  let trigger ← maskedField mask image 1 decodeTrigger x.trigger
  let period ← maskedField mask image 2 (decodeClamped 50 10000000) x.period
  let hold ← maskedField mask image 3 (decodeHold g) x.hold
  return { x with mode := mode, trigger := trigger, period := period, hold := hold }

def writeGroupsAct (r : Request) (s : State) : Verdict :=
  writeAct .groups (fun _ _ => false) (fun index mask image =>
    let g : ScanGroup := if index = 0 then .fast else .slow
    ranged ((s.group g).written g mask image) fun x =>
      if (s.group g).phase ≠ .stopped then .busy (lowestField mask fun _ => true)
      else doneWrite .groups index (s.setGroup g x)) r s

/-! ### PANELS and SCANOUT (R62, R63) -/

/-- A width or height: 1024 to 2304 and a multiple of 16 (R63). -/
def decodeDimension (v : Slot) : Option Nat := (decodeIn 1024 2304 v).filter fun n => n % 16 == 0

def Panel.written (mask : BitVec 32) (image : List Byte) (p : Panel) : Except Nat Panel := do
  let width ← maskedField mask image 0 decodeDimension p.width
  let height ← maskedField mask image 1 decodeDimension p.height
  let marginH ← maskedField mask image 2 (decodeIn 0 128) p.marginH
  let marginV ← maskedField mask image 3 (decodeIn 0 128) p.marginV
  let kH ← maskedField mask image 4 (decodeClamped 0 32767) p.kH
  let kV ← maskedField mask image 5 (decodeClamped 0 32767) p.kV
  let shiftEnable ← maskedField mask image 6 decodeBool p.shiftEnable
  let repeatLimit ← maskedField mask image 7 (decodeClamped 0 7) p.repeatLimit
  let setpoint ← maskedField mask image 8 (decodeClamped 0 1023) p.setpoint
  return { p with
    width := width
    height := height
    marginH := marginH
    marginV := marginV
    kH := kH
    kV := kV
    shiftEnable := shiftEnable
    repeatLimit := repeatLimit
    setpoint := setpoint }

/-- An accepted WRITE to PANELS (R58, R63, R73): a mask with a structural field, fields 0 to 3, empties all three slots. -/
def State.writePanel (e : Eye) (structural : Bool) (p : Panel) (s : State) : State :=
  let s := (s.setPanel e p).limitBrightness
  if structural then s.emptyAllSlots else s

def writePanelsAct (r : Request) (s : State) : Verdict :=
  writeAct .panels (fun _ _ => false) (fun index mask image =>
    let e : Eye := if index = 0 then .left else .right
    let structural := lowestField mask fun k => decide (k < 4)
    ranged ((s.panel e).written mask image) fun p =>
      if structural.isSome ∧ ¬ s.bothOff then .busy structural
      else doneWrite .panels index (s.writePanel e structural.isSome p)) r s

def Scanout.written (mask : BitVec 32) (image : List Byte) (x : Scanout) : Except Nat Scanout := do
  let enable ← maskedField mask image 0 decodeBool x.enable
  let refresh ← maskedField mask image 1 decodeRefresh x.refresh
  return { x with enable := enable, refresh := refresh }

def writeScanoutAct (r : Request) (s : State) : Verdict :=
  writeAct .scanout (fun _ _ => false) (fun index mask image =>
    ranged (s.scanout.written mask image) fun x =>
      if mask.getLsbD 1 ∧ ¬ s.bothOff then .busy (some 1)
      else doneWrite .scanout index ({ s with scanout := x }).followDemand) r s

/-! ### AUDIO (R81) -/

def AudioRecord.written (mask : BitVec 32) (image : List Byte) (a : AudioRecord) : Except Nat AudioRecord := do
  let startA ← maskedField mask image 0 (decodeIn 1 1023) a.startA
  let startB ← maskedField mask image 1 (decodeIn 1 1023) a.startB
  let slipLow ← maskedField mask image 2 (decodeIn 0 1022) a.slipLow
  let slipHigh ← maskedField mask image 3 (decodeIn 2 1024) a.slipHigh
  let gainA ← maskedField mask image 4 (decodeClamped 0 192) a.gainA
  let gainB ← maskedField mask image 5 (decodeClamped 0 192) a.gainB
  let masterGain ← maskedField mask image 6 (decodeClamped 0 192) a.masterGain
  let captureGain ← maskedField mask image 7 (decodeClamped 0 192) a.captureGain
  let captureEnable ← maskedField mask image 8 decodeBool a.captureEnable
  return ⟨startA, startB, slipLow, slipHigh, gainA, gainB, masterGain, captureGain, captureEnable⟩

/-- The constraints of the Audio record (R81). -/
def audioConstraints (a : AudioRecord) : List (Bool × List Nat) :=
  [(decide (a.slipLow < a.startA), [0, 2]), (decide (a.startA < a.slipHigh), [0, 3]),
    (decide (a.slipLow < a.startB), [1, 2]), (decide (a.startB < a.slipHigh), [1, 3])]

/-- An accepted WRITE to AUDIO (R81). -/
def State.writeAudio (a : AudioRecord) (s : State) : State :=
  let was := s.captureActive
  (({ s with sound := { s.sound with audio := a } }).startPrimed).stopCaptureIfEnded was

def writeAudioAct (r : Request) (s : State) : Verdict :=
  writeAct .audio (fun _ _ => false) (fun index mask image =>
    ranged (s.sound.audio.written mask image) fun a =>
      unlessConflict mask (audioConstraints a) (doneWrite .audio index (s.writeAudio a))) r s

/-! ### REPORT (R29, R30) -/

def Report.written (mask : BitVec 32) (image : List Byte) (x : Report) : Except Nat Report := do
  let threshold ← maskedField mask image 0 (decodeClamped 1 60) x.threshold
  let ageLimit ← maskedField mask image 1 (decodeClamped 100 10000) x.ageLimit
  return { x with threshold := threshold, ageLimit := ageLimit }

/-- The head's age expiry set again by a write of the age limit (R30): it occurs at once if its moment has passed, and one that has
occurred stays in force. DEDUCED, log 14. -/
def Report.reage (now : Time) (r : Report) : Report :=
  match r.queue with
  | [] => r
  | e :: _ => { r with expired := r.expired || r.aged now e }

def writeReportAct (r : Request) (s : State) : Verdict :=
  writeAct .report (fun _ _ => false) (fun index mask image =>
    ranged (s.report.written mask image) fun x =>
      let x := if mask.getLsbD 1 then x.reage s.clock.now else x
      doneWrite .report index { s with report := x }) r s

/-! ### STANCES, STANCE_LIMITS and RULES (R100 to R103) -/

def StanceRecord.written (mask : BitVec 32) (image : List Byte) (x : StanceRecord) : Except Nat StanceRecord := do
  let cap ← maskedField mask image 0 (decodeClamped 0 1023) x.cap
  let floor ← maskedField mask image 1 (decodeClamped 0 192) x.floor
  let fastFloor ← maskedField mask image 2 (decodeClamped 0 100000) x.fastFloor
  let panels ← maskedField mask image 3 decodeBool x.panels
  let sound ← maskedField mask image 4 decodeBool x.sound
  let voice ← maskedField mask image 5 decodeBool x.voice
  let fast ← maskedField mask image 6 decodeBool x.fast
  return ⟨cap, floor, fastFloor, panels, sound, voice, fast⟩

/-- An accepted WRITE to STANCES (R101): the record of the stance in effect is pushed at once, without a ramp. -/
def State.writeStance (i : Fin 4) (x : StanceRecord) (s : State) : State :=
  let p := { s.power with stances := s.power.stances.set i.val x }
  if i = s.power.inEffect.index then s.changePower { p with cap := x.cap, floor := x.floor } else { s with power := p }

def writeStancesAct (r : Request) (s : State) : Verdict :=
  writeAct .stances (fun index k => index == 3 && decide (3 ≤ k)) (fun index mask image =>
    if h : index < 4 then
      ranged (s.power.stances[index].written mask image) fun x =>
        if index = s.power.inEffect.rank ∧ s.power.ramp.isSome then .busy (lowestField mask fun _ => true)
        else doneWrite .stances index (s.writeStance ⟨index, h⟩ x)
    else .refused .range none) r s

/-- A ramp time: 0 to 1000 ms and a multiple of 10 (R102). -/
def decodeRampTime (v : Slot) : Option Nat := (decodeIn 0 1000 v).filter fun n => n % 10 == 0

def Power.limitsWritten (mask : BitVec 32) (image : List Byte) (p : Power) : Except Nat Power := do
  let staleLimit ← maskedField mask image 0 (decodeClamped 10 2000) p.staleLimit
  let rampTime ← maskedField mask image 1 decodeRampTime p.rampTime
  return { p with staleLimit := staleLimit, rampTime := rampTime }

def writeStanceLimitsAct (r : Request) (s : State) : Verdict :=
  writeAct .stanceLimits (fun _ _ => false) (fun index mask image =>
    ranged (s.power.limitsWritten mask image) fun p => doneWrite .stanceLimits index { s with power := p }) r s

def Rule.written (mask : BitVec 32) (image : List Byte) (x : Rule) : Except Nat Rule := do
  let enabled ← maskedField mask image 0 decodeBool x.enabled
  let slot ← maskedField mask image 1 decodeSlotNumber x.slot
  let ceiling ← maskedField mask image 2 decodeStance x.ceiling
  return ⟨enabled, slot, ceiling⟩

/-- An accepted WRITE to RULES: the target is evaluated at once, with the marks as they stand (R103, R105). When that settles a pending
STANCE_ORDER, its answer is placed before the WRITE's own: DESIGN CHOICE, log 33. -/
def State.writeRule (i : Fin 8) (x : Rule) (s : State) : State :=
  ({ s with power := { s.power with rules := s.power.rules.set i.val x } }).evaluate

def writeRulesAct (r : Request) (s : State) : Verdict :=
  writeAct .rules (fun _ _ => false) (fun index mask image =>
    if h : index < 8 then
      ranged (s.power.rules[index].written mask image) fun x => doneWrite .rules index (s.writeRule ⟨index, h⟩ x)
    else .refused .range none) r s

/-! ### Meanings -/

/-- WRITE to a read-only or undefined table (R148). -/
def execWrite (s : State) : Result := .next (s.serve .write writeOtherAct)

/-- WRITE_STREAMS (R134). -/
def execWriteStreams (s : State) : Result := .next (s.serve .writeStreams writeStreamsAct)

/-- WRITE_CHANNELS (R8). -/
def execWriteChannels (s : State) : Result := .next (s.serve .writeChannels writeChannelsAct)

/-- WRITE_GROUPS (R9). -/
def execWriteGroups (s : State) : Result := .next (s.serve .writeGroups writeGroupsAct)

/-- WRITE_PANELS (R63). -/
def execWritePanels (s : State) : Result := .next (s.serve .writePanels writePanelsAct)

/-- WRITE_SCANOUT (R62). -/
def execWriteScanout (s : State) : Result := .next (s.serve .writeScanout writeScanoutAct)

/-- WRITE_AUDIO (R81). -/
def execWriteAudio (s : State) : Result := .next (s.serve .writeAudio writeAudioAct)

/-- WRITE_REPORT (R29). -/
def execWriteReport (s : State) : Result := .next (s.serve .writeReport writeReportAct)

/-- WRITE_STANCES (R101). -/
def execWriteStances (s : State) : Result := .next (s.serve .writeStances writeStancesAct)

/-- WRITE_STANCE_LIMITS (R102). -/
def execWriteStanceLimits (s : State) : Result := .next (s.serve .writeStanceLimits writeStanceLimitsAct)

/-- WRITE_RULES (R103). -/
def execWriteRules (s : State) : Result := .next (s.serve .writeRules writeRulesAct)

end Sys2Proof.Machine
end

