-- ==== Sys2Proof/Machine/Service.lean ====
section
/-! DEFINITION. The Management Unit serves whenever it can (R144): every other command waits for the services that can be made. -/

namespace Sys2Proof.Machine

/-- The oldest request is served by its row (R144); a command that serves no request is no request's row. -/
def State.serveOldest (s : State) : State :=
  match s.mgmt.requests.head?.map Request.service with
  | some .read => s.serve .read readAct
  | some .readSnapshot => s.serve .readSnapshot readSnapshotAct
  | some .write => s.serve .write writeOtherAct
  | some .writeStreams => s.serve .writeStreams writeStreamsAct
  | some .writeChannels => s.serve .writeChannels writeChannelsAct
  | some .writeGroups => s.serve .writeGroups writeGroupsAct
  | some .writePanels => s.serve .writePanels writePanelsAct
  | some .writeScanout => s.serve .writeScanout writeScanoutAct
  | some .writeAudio => s.serve .writeAudio writeAudioAct
  | some .writeReport => s.serve .writeReport writeReportAct
  | some .writeStances => s.serve .writeStances writeStancesAct
  | some .writeStanceLimits => s.serve .writeStanceLimits writeStanceLimitsAct
  | some .writeRules => s.serve .writeRules writeRulesAct
  | some .descRead => s.serve .descRead descReadAct
  | some .eventsClear => s.serve .eventsClear (eventSetAct State.clearEvents)
  | some .eventsEnable => s.serve .eventsEnable (eventSetAct State.enableEvents)
  | some .eventsDisable => s.serve .eventsDisable (eventSetAct State.disableEvents)
  | some .eventsInject => s.serve .eventsInject eventsInjectAct
  | some .gate => s.serve .gate gateAct
  | some .lockLive => s.serve .lockLive lockLiveAct
  | some .groupStart => s.serve .groupStart groupStartAct
  | some .groupStop => s.serve .groupStop groupStopAct
  | some .rangeClear => s.serve .rangeClear rangeClearAct
  | some .extremesClear => s.serve .extremesClear extremesClearAct
  | some .stanceOrder => s.serve .stanceOrder stanceOrderAct
  | some .countersClear => s.serve .countersClear countersClearAct
  | _ => s

/-- Up to `n` requests are served, one after another, while the oldest can be (R144). -/
def State.serveUpTo : Nat → State → State
  | 0, s => s
  | n + 1, s => if s.servable then State.serveUpTo n s.serveOldest else s

/-- Every request that can be served has been (R144): the queue is empty, or the answer queue has no room. Each service takes one request
from the queue, so as many services as there are requests are enough. -/
def State.caughtUp (s : State) : State := s.serveUpTo s.mgmt.requests.length

/-- An event other than a service: the Management Unit serves whenever it can, so the services that can be made come first, at the present
time. DESIGN CHOICE, log 6. -/
def State.inTurn (f : State → State) (s : State) : Host.Outcome State Fault Refusal := .next (f s.caughtUp)

end Sys2Proof.Machine
end

