-- ==== Sys2Proof/Machine/Commands.lean ====
section
/-! DEFINITION. The meanings of the cell commands, of the resets, and of the link's, the clocks' and the lane's events. Each takes its turn after the services that can be made (R144). -/

namespace Sys2Proof.Machine

/-! ### Meanings of the cell commands -/

/-- FILL (R123): dropped by the receiver after its good header counts. -/
def execFill (_stream : Fin 32) (s : State) : Result := s.inTurn fun s => s.whenReceiving State.goodHeader

/-- PIC_OPEN (R45, R46); bit 0 of the flags is NO_SHIFT (R170). -/
def execPicOpen (stream : Fin 32) (frame : BitVec 16) (flags : Byte) (renderTime : Time) (s : State) : Result :=
  s.inTurn fun s => s.whenReceiving (fun s =>
    s.arrive stream (admitsKind .picture) fun _ s => s.openFrame frame (flags.getLsbD 0) renderTime)

/-- PIC_BAND (R47, R48), after the band-length check of R122; a payload longer than the length field holds is no good cell (log 25). -/
def execPicBand (stream : Fin 32) (frame : BitVec 16) (eye band : Byte) (rows : List Byte) (s : State) : Result :=
  s.inTurn fun s => s.whenReceiving (fun s =>
    if bandRowsFit rows && s.bandLengthOk eye band rows then
      s.arrive stream (admitsKind .picture) fun _ s => s.acceptBand frame eye band rows
    else s.discardCell .runt)

/-- PIC_CLOSE (R50, R51). -/
def execPicClose (stream : Fin 32) (frame : BitVec 16) (s : State) : Result :=
  s.inTurn fun s => s.whenReceiving (fun s => s.arrive stream (admitsKind .picture) fun _ s => s.closeFrame frame)

/-- SOUND (R83), handed on with the entry's sink (R136); a pair count that breaks the length rule is a runt (R122, log 25). -/
def execSound (stream : Fin 32) (pairs : List (BitVec 24 × BitVec 24)) (s : State) : Result :=
  s.inTurn fun s => s.whenReceiving (fun s =>
    if soundPairsFit pairs then s.arrive stream (admitsKind .sound) fun e s => s.takeSound e.sink (soundPairs pairs)
    else s.discardCell .runt)

/-- ASK (R142); a payload longer than any length field is no good cell (R122, log 25). -/
def execAsk (stream : Fin 32) (tag op : Byte) (operands : List Byte) (s : State) : Result :=
  s.inTurn fun s => s.whenReceiving (fun s =>
    if askOperandsFit operands then s.arrive stream (admitsKind .ask) fun _ s => s.takeAsk ⟨stream, tag, op, operands⟩
    else s.discardCell .runt)

/-- RESET (R130, R135): admitted on stream 0 alone; its count is made before the tether reset clears it (R138). -/
def execReset (stream : Fin 32) (s : State) : Result :=
  s.inTurn fun s => s.whenReceiving (fun s =>
    let s := s.arrive stream (fun _ => stream == 0) fun _ s => (true, s)
    if stream = 0 then s.tetherReset else s)

/-- CELL_DISCARDED (R122). -/
def execCellDiscarded (framed : List Byte) (s : State) : Result := s.inTurn (State.discardFramed framed)

/-! ### Meanings of the resets and of the clocks' events -/

/-- POWER_ON_RESET (R130). -/
def execPowerOnReset (s : State) : Result := .next s.powerOnReset

/-- HOLD_EXPIRY (R120), while the hold timer runs and headset time runs (R128, log 3). -/
def execHoldExpiry (s : State) : Result := s.inTurn fun s => s.timed s.holdDue State.holdExpires

/-- CLOCK_ABSENT (R117). -/
def execClockAbsent (cut : List Byte) (s : State) : Result := s.inTurn (State.clockStops cut)

/-- CLOCK_RETURN (R117, R118). -/
def execClockReturn (s : State) : Result := s.inTurn State.clockReturns

/-- CLOCK_LOSS_EXPIRY (R117). -/
def execClockLossExpiry (s : State) : Result := s.inTurn State.clockLossExpires

/-- CRYSTAL_ABSENT (R128). -/
def execCrystalAbsent (s : State) : Result := s.inTurn State.crystalStops

/-- CRYSTAL_RETURN (R128). -/
def execCrystalReturn (s : State) : Result := s.inTurn State.crystalReturns

/-- CRYSTAL_LOSS_EXPIRY (R128). -/
def execCrystalLossExpiry (s : State) : Result := s.inTurn State.crystalLossExpires

/-- BAND_WRITE_COMPLETE (R49). -/
def execBandWriteComplete (slot : Fin 3) (s : State) : Result := s.inTurn (State.completeWrite slot)

/-- CELL_BOUNDARY (R126). -/
def execCellBoundary (s : State) : Result := s.inTurn State.cellBoundary

end Sys2Proof.Machine
end

