-- ==== Sys2Proof/Machine/Timed.lean ====
section
/-! DEFINITION. The events timed in headset time: scan triggers, completions, expiries, latches, ticks and checks, each taken in its turn at its due time (log 2), and the event that the part itself has due. -/

namespace Sys2Proof.Machine

/-! ### Due times -/

/-- A group's TIMER trigger (R12). -/
def State.scanDue (g : ScanGroup) (s : State) : Option Time :=
  if (s.group g).trigger = .timer then s.triggerDue g else none

/-- The burst in flight takes 24 µs (R3). -/
def State.burstDue (s : State) : Option Time := s.sense.port.map fun u => u.start + 24

/-- The conversion in flight takes 3 µs (R4). -/
def State.conversionDue (s : State) : Option Time := s.sense.converter.map fun u => u.start + 3

/-- The age expiry of the head entry, while it has not occurred (R30). -/
def State.ageDue (s : State) : Option Time :=
  if s.report.expired then none else s.report.queue.head?.map s.report.expiryOf

/-- A panel-ready completion: the end of a power-up sequence (R66). -/
def State.panelReadyDue (e : Eye) (s : State) : Option Time :=
  if (s.panel e).power = .starting then some (s.panel e).seqEnd else none

/-- A power-down completion: the end of a power-down sequence (R66). -/
def State.powerDownDue (e : Eye) (s : State) : Option Time :=
  if (s.panel e).power = .stopping then some (s.panel e).seqEnd else none

/-! ### Meanings -/

/-- SCAN_TRIGGER (R12): a TIMER trigger of a group. -/
def execScanTrigger (g : ScanGroup) (s : State) : Result := s.inTurn fun s => s.timed (s.scanDue g) (State.timerTrigger g)

/-- BURST_COMPLETE (R3). -/
def execBurstComplete (raw : SixAxes) (s : State) : Result := s.inTurn fun s => s.timed s.burstDue (State.burstDone raw)

/-- CONVERSION_COMPLETE (R4). -/
def execConversionComplete (raw : BitVec 12) (s : State) : Result := s.inTurn fun s => s.timed s.conversionDue (State.conversionDone raw)

/-- AGE_EXPIRY (R30). -/
def execAgeExpiry (s : State) : Result := s.inTurn fun s => s.timed s.ageDue State.ageHead

/-- FRAME_LATCH (R69). -/
def execFrameLatch (s : State) : Result := s.inTurn fun s => s.timed s.scanout.latchDue State.frameLatch

/-- PANEL_READY (R65, R66). -/
def execPanelReady (e : Eye) (s : State) : Result := s.inTurn fun s => s.timed (s.panelReadyDue e) (State.panelOn e)

/-- POWER_DOWN_COMPLETE (R65, R66). -/
def execPowerDownComplete (e : Eye) (s : State) : Result := s.inTurn fun s => s.timed (s.powerDownDue e) (State.panelDown e)

/-- OUTPUT_TICK (R85). -/
def execOutputTick (s : State) : Result := s.inTurn fun s => s.timed (some s.sound.tick.due) State.outputTick

/-- SLIP_CHECK (R88): the check that the last tick with a number that is a multiple of 480 owes. -/
def execSlipCheck (s : State) : Result := s.inTurn fun s => if s.sound.slipDue then s.slipCheck else s

/-- MICROPHONE_SAMPLE (R94). -/
def execMicrophoneSample (sample : BitVec 16) (s : State) : Result :=
  s.inTurn fun s => s.timed (some s.sound.mic.due) (State.microphone sample)

/-- STANCE_CHECK (R104). -/
def execStanceCheck (s : State) : Result := s.inTurn fun s => s.timed (some s.power.checkDue) State.stanceCheck

/-! ### The part's own run (log 1) -/

/-- A command offered when a headset-timed event has come due. -/
def State.offerDue (due : Option Time) (c : Instr) (s : State) : Option Instr :=
  match due with
  | some t => if s.timeRuns && s.reached t then some c else none
  | none => none

/-- The six raw values the sensor presents for a burst begun at a time: free values (log 18). -/
def pinnedAxes (t : Time) : SixAxes :=
  ⟨Config.motionPin 0 t, Config.motionPin 1 t, Config.motionPin 2 t, Config.motionPin 3 t, Config.motionPin 4 t,
    Config.motionPin 5 t⟩

/-- The raw value the multiplexer presents for the conversion in flight: a free value (log 18). -/
def State.pinnedAnalog (u : InFlight) (s : State) : BitVec 12 :=
  match (s.group u.owner).pass with
  | none => 0
  | some p =>
    match p.todo with
    | [] => 0
    | k :: _ =>
      match s.sense.channels[k].source with
      | none => 0
      | some src => Config.analogPin src u.start

/-- The event the part itself has due, as the command that takes it; none when nothing is due. Of several due at once the first of this
order is taken: DESIGN CHOICE, log 27. -/
def State.ownEvent (s : State) : Option Instr :=
  (if s.servable then s.mgmt.requests.head?.map Request.service else none) <|>
  (if (s.link.clockLoss.any fun n => decide (clockLossTime ≤ n)) then some .clockLossExpiry else none) <|>
  (if (s.clock.watch.any fun n => decide (crystalLossTime ≤ n)) then some .crystalLossExpiry else none) <|>
  s.offerDue s.holdDue .holdExpiry <|>
  (if s.sound.slipDue then some .slipCheck else none) <|>
  (if s.boundaryDue then some .cellBoundary else none) <|>
  s.offerDue (s.scanDue .fast) (.scanTrigger .fast) <|>
  s.offerDue (s.scanDue .slow) (.scanTrigger .slow) <|>
  (s.sense.port.bind fun u => s.offerDue s.burstDue (.burstComplete (pinnedAxes u.start))) <|>
  (s.sense.converter.bind fun u => s.offerDue s.conversionDue (.conversionComplete (s.pinnedAnalog u))) <|>
  s.offerDue s.ageDue .ageExpiry <|>
  s.offerDue (s.panelReadyDue .left) (.panelReady .left) <|>
  s.offerDue (s.panelReadyDue .right) (.panelReady .right) <|>
  s.offerDue (s.powerDownDue .left) (.powerDownComplete .left) <|>
  s.offerDue (s.powerDownDue .right) (.powerDownComplete .right) <|>
  s.offerDue s.scanout.latchDue .frameLatch <|>
  s.offerDue (some s.sound.tick.due) .outputTick <|>
  s.offerDue (some s.sound.mic.due) (.microphoneSample (Config.microphonePin s.sound.mic.due)) <|>
  s.offerDue (some s.power.checkDue) .stanceCheck

end Sys2Proof.Machine
end

