-- ==== Sys2Proof/Machine/Dispatch.lean ====
section
/-! DEFINITION. The effect of every command on everything but the queue: one arm per constructor of `Instr`. -/

namespace Sys2Proof.Machine

/-- The effect of a command (the rows of spec/opcode_table.json). -/
def exec (i : Instr) (s : State) : Host.Outcome State Fault Refusal :=
  match i with
  | .powerOnReset => Sys2Proof.Machine.execPowerOnReset s
  | .reset stream => Sys2Proof.Machine.execReset stream s
  | .holdExpiry => Sys2Proof.Machine.execHoldExpiry s
  | .clockAbsent cut => Sys2Proof.Machine.execClockAbsent cut s
  | .clockReturn => Sys2Proof.Machine.execClockReturn s
  | .clockLossExpiry => Sys2Proof.Machine.execClockLossExpiry s
  | .crystalAbsent => Sys2Proof.Machine.execCrystalAbsent s
  | .crystalReturn => Sys2Proof.Machine.execCrystalReturn s
  | .crystalLossExpiry => Sys2Proof.Machine.execCrystalLossExpiry s
  | .cellDiscarded framed => Sys2Proof.Machine.execCellDiscarded framed s
  | .fill stream => Sys2Proof.Machine.execFill stream s
  | .picOpen stream frame flags renderTime => Sys2Proof.Machine.execPicOpen stream frame flags renderTime s
  | .picBand stream frame eye band rows => Sys2Proof.Machine.execPicBand stream frame eye band rows s
  | .picClose stream frame => Sys2Proof.Machine.execPicClose stream frame s
  | .bandWriteComplete slot => Sys2Proof.Machine.execBandWriteComplete slot s
  | .sound stream pairs => Sys2Proof.Machine.execSound stream pairs s
  | .ask stream tag op operands => Sys2Proof.Machine.execAsk stream tag op operands s
  | .read => Sys2Proof.Machine.execRead s
  | .readSnapshot => Sys2Proof.Machine.execReadSnapshot s
  | .write => Sys2Proof.Machine.execWrite s
  | .writeStreams => Sys2Proof.Machine.execWriteStreams s
  | .writeChannels => Sys2Proof.Machine.execWriteChannels s
  | .writeGroups => Sys2Proof.Machine.execWriteGroups s
  | .writePanels => Sys2Proof.Machine.execWritePanels s
  | .writeScanout => Sys2Proof.Machine.execWriteScanout s
  | .writeAudio => Sys2Proof.Machine.execWriteAudio s
  | .writeReport => Sys2Proof.Machine.execWriteReport s
  | .writeStances => Sys2Proof.Machine.execWriteStances s
  | .writeStanceLimits => Sys2Proof.Machine.execWriteStanceLimits s
  | .writeRules => Sys2Proof.Machine.execWriteRules s
  | .descRead => Sys2Proof.Machine.execDescRead s
  | .eventsClear => Sys2Proof.Machine.execEventsClear s
  | .eventsEnable => Sys2Proof.Machine.execEventsEnable s
  | .eventsDisable => Sys2Proof.Machine.execEventsDisable s
  | .eventsInject => Sys2Proof.Machine.execEventsInject s
  | .gate => Sys2Proof.Machine.execGate s
  | .lockLive => Sys2Proof.Machine.execLockLive s
  | .groupStart => Sys2Proof.Machine.execGroupStart s
  | .groupStop => Sys2Proof.Machine.execGroupStop s
  | .rangeClear => Sys2Proof.Machine.execRangeClear s
  | .extremesClear => Sys2Proof.Machine.execExtremesClear s
  | .stanceOrder => Sys2Proof.Machine.execStanceOrder s
  | .countersClear => Sys2Proof.Machine.execCountersClear s
  | .scanTrigger group => Sys2Proof.Machine.execScanTrigger group s
  | .burstComplete raw => Sys2Proof.Machine.execBurstComplete raw s
  | .conversionComplete raw => Sys2Proof.Machine.execConversionComplete raw s
  | .ageExpiry => Sys2Proof.Machine.execAgeExpiry s
  | .frameLatch => Sys2Proof.Machine.execFrameLatch s
  | .panelReady eye => Sys2Proof.Machine.execPanelReady eye s
  | .powerDownComplete eye => Sys2Proof.Machine.execPowerDownComplete eye s
  | .outputTick => Sys2Proof.Machine.execOutputTick s
  | .slipCheck => Sys2Proof.Machine.execSlipCheck s
  | .microphoneSample sample => Sys2Proof.Machine.execMicrophoneSample sample s
  | .stanceCheck => Sys2Proof.Machine.execStanceCheck s
  | .cellBoundary => Sys2Proof.Machine.execCellBoundary s

end Sys2Proof.Machine
end

