-- ==== Sys2Proof/Machine/Step.lean ====
section
/-! DEFINITION. One step of the block: the command at the front of the queue, or, on an empty queue, the part's own run. -/

namespace Sys2Proof.Machine

/-- What the part does by itself: the event it has due, else one microsecond passes. DESIGN CHOICE, log 1. -/
def State.ownStep (s : State) : Host.Outcome State Fault Refusal :=
  match s.ownEvent with
  | some c => exec c s
  | none => .next (s.elapse 1)

/-- One step: the command at the front of the queue on the state with the queue's rest; on an empty queue the part runs by itself. -/
def step (s : State) : Host.Outcome State Fault Refusal :=
  match s.pending with
  | c :: rest => exec c { s with pending := rest }
  | [] => s.ownStep

/-- The state with the command that a word spells at the front of its queue; unchanged where the word spells none. -/
def State.withFetchWord (s : State) (nbits w : Nat) : State :=
  match Sys2Proof.decodeTableWord nbits w with
  | some c => { s with pending := c :: s.pending }
  | none => s

end Sys2Proof.Machine
end

