-- ==== Sys2Proof/Safety.lean ====
section
/-! DEFINITION. What claims about the part are stated in: the parts of the state a command can leave alone, and the laws of the device that every step keeps. -/

namespace Sys2Proof.Machine

/-! ### Parts of the state -/

/-- A part of the state: every field of `State` lies in exactly one. -/
inductive Part
  | pending | clock | link | lane | counters | cause | streams
  | requests | answers | deferred
  | raised | enabled | gate | lock | notice
  | slots | writes | superseded | dram
  | leftPanel | rightPanel | scanoutEnable | refresh | latchCount | latchDue
  | channels | samples | fast | slow | port | converter | snapshot
  | reportRecord | sampleQueue | pose
  | audio | queueA | queueB | ticks | microphone | capture | output
  | stances | stanceLimits | rules | stance | ramp | limits | marks | checkDue
  | lastCyclic | wire
  deriving DecidableEq, Repr

/-- A part reads the same in two states. -/
def Part.same (p : Part) (s t : State) : Prop :=
  match p with
  | .pending => t.pending = s.pending
  | .clock => t.clock = s.clock
  | .link => t.link.state = s.link.state ∧ t.link.goodRun = s.link.goodRun ∧ t.link.badRun = s.link.badRun ∧
      t.link.hold = s.link.hold
  | .lane => t.link.clockPresent = s.link.clockPresent ∧ t.link.clockLoss = s.link.clockLoss
  | .counters => t.link.counters = s.link.counters
  | .cause => t.cause = s.cause
  | .streams => t.streams = s.streams
  | .requests => t.mgmt.requests = s.mgmt.requests
  | .answers => t.mgmt.answers = s.mgmt.answers
  | .deferred => t.mgmt.deferred = s.mgmt.deferred
  | .raised => t.events.raised = s.events.raised
  | .enabled => t.events.enabled = s.events.enabled
  | .gate => t.events.gateOpen = s.events.gateOpen
  | .lock => t.events.lock = s.events.lock
  | .notice => t.events.notice = s.events.notice
  | .slots => t.frames.slots = s.frames.slots
  | .writes => t.frames.writes = s.frames.writes
  | .superseded => t.frames.superseded = s.frames.superseded
  | .dram => t.frames.dram = s.frames.dram
  | .leftPanel => t.scanout.left = s.scanout.left
  | .rightPanel => t.scanout.right = s.scanout.right
  | .scanoutEnable => t.scanout.enable = s.scanout.enable
  | .refresh => t.scanout.refresh = s.scanout.refresh
  | .latchCount => t.scanout.latchCount = s.scanout.latchCount
  | .latchDue => t.scanout.latchDue = s.scanout.latchDue
  | .channels => t.sense.channels = s.sense.channels
  | .samples => t.sense.samples = s.sense.samples
  | .fast => t.sense.fast = s.sense.fast
  | .slow => t.sense.slow = s.sense.slow
  | .port => t.sense.port = s.sense.port
  | .converter => t.sense.converter = s.sense.converter
  | .snapshot => t.sense.snapshot = s.sense.snapshot
  | .reportRecord => t.report.threshold = s.report.threshold ∧ t.report.ageLimit = s.report.ageLimit
  | .sampleQueue => t.report.queue = s.report.queue ∧ t.report.gap = s.report.gap ∧ t.report.filling = s.report.filling ∧
      t.report.expired = s.report.expired
  | .pose => t.pose = s.pose
  | .audio => t.sound.audio = s.sound.audio
  | .queueA => t.sound.queueA = s.sound.queueA
  | .queueB => t.sound.queueB = s.sound.queueB
  | .ticks => t.sound.tickCount = s.sound.tickCount ∧ t.sound.slipDue = s.sound.slipDue ∧ t.sound.tick = s.sound.tick
  | .microphone => t.sound.mic = s.sound.mic
  | .capture => t.sound.capture = s.sound.capture ∧ t.sound.captureGap = s.sound.captureGap ∧
      t.sound.captureFilling = s.sound.captureFilling
  | .output => t.sound.output = s.sound.output
  | .stances => t.power.stances = s.power.stances
  | .stanceLimits => t.power.staleLimit = s.power.staleLimit ∧ t.power.rampTime = s.power.rampTime
  | .rules => t.power.rules = s.power.rules
  | .stance => t.power.ordered = s.power.ordered ∧ t.power.inEffect = s.power.inEffect
  | .ramp => t.power.ramp = s.power.ramp
  | .limits => t.power.cap = s.power.cap ∧ t.power.floor = s.power.floor
  | .marks => t.power.active = s.power.active ∧ t.power.stale = s.power.stale
  | .checkDue => t.power.checkDue = s.power.checkDue
  | .lastCyclic => t.sender.last = s.sender.last
  | .wire => t.sender.wire = s.sender.wire

/-- From `s` to `t` nothing but the named parts may have changed. -/
def ChangesOnly (parts : List Part) (s t : State) : Prop := ∀ p : Part, p ∉ parts → p.same s t

/-- What raising a kind changes (R157, R163). -/
def eventParts : List Part := [.raised, .notice]

/-- What the Sense Engine's work can change: the groups and their resources, the sample state, the Snapshot record, the Sample Queue, the
pose and the events raised. -/
def sensingParts : List Part :=
  [.fast, .slow, .port, .converter, .samples, .snapshot, .sampleQueue, .pose, .raised, .notice]

/-- What a push of the Power Unit can change in the blocks that take it (Table 6-3). -/
def pushParts : List Part :=
  [.leftPanel, .rightPanel, .latchDue, .queueA, .queueB, .capture, .fast, .slow, .port, .converter, .pose]

/-- What a grant of the upstream lane can change (R126, R127). -/
def grantParts : List Part := [.sampleQueue, .capture, .answers, .notice, .lastCyclic, .wire]

/-- What a good header can change: the link, and, when it makes the link UP, LINK_RECOVERED and the first grant (R118 to R120, R125). -/
def headerParts : List Part := [.link, .counters, .raised, .notice] ++ grantParts

/-- What the entry to LOST changes beside the link (Table 7-2). -/
def lostParts : List Part := [.link, .counters, .leftPanel, .rightPanel, .queueA, .queueB, .slots, .raised, .notice]

/-- What an evaluation of the target stance can change (R105 to R111, R153). -/
def stanceParts : List Part := [.stance, .ramp, .limits, .answers, .deferred, .raised, .notice] ++ pushParts

/-! ### Laws of the device -/

/-- The DRAM is in its canonical form (R44, log 12). -/
def DramLaw (s : State) : Prop := s.frames.dram.wf

/-- How many slots are in a state. -/
def State.slotCount (ph : SlotPhase) (s : State) : Nat := (s.frames.slots.toList.filter fun f => f.phase == ph).length

/-- What a slot's record holds in its state, given its writes outstanding (R41, Table 3-1, R54). -/
def SlotRecordLaw (f : FrameSlot) (outstanding : Nat) : Prop :=
  (f.phase = .empty → f = FrameSlot.emptied) ∧
  (f.phase ≠ .empty → f.frame.isSome ∧ f.renderTime.isSome) ∧
  (f.phase ≠ .showing → f.repeats = 0) ∧ f.repeats ≤ 255 ∧
  (f.phase = .ready ∨ f.phase = .showing → outstanding = 0) ∧
  f.left.Pairwise (· < ·) ∧ f.right.Pairwise (· < ·)

/-- The law of R41, with what Table 3-1 says of a slot's record in each state. -/
def FrameLaw (s : State) : Prop :=
  s.slotCount .filling ≤ 1 ∧ s.slotCount .closing ≤ 1 ∧ s.slotCount .ready ≤ 1 ∧ s.slotCount .showing ≤ 1 ∧
  ∀ i : Fin 3, SlotRecordLaw s.frames.slots[i] (s.outstanding i)

/-- The capacities of the queues (R26, R82, R95, R142, R143), the ranges of the gap counts (R27, R95), that a filling lasts only while
its queue is full (R27, R95), that a stance answer is pending only during a ramp (R110), and that a stopped capture leaves whole
blocks (R96). -/
def QueueLaw (s : State) : Prop :=
  s.report.queue.length ≤ sampleCapacity ∧ s.report.gap ≤ 65535 ∧
  (s.report.filling = true → s.report.queue.length = sampleCapacity) ∧
  s.sound.queueA.pairs.length ≤ playoutCapacity ∧ s.sound.queueB.pairs.length ≤ playoutCapacity ∧
  s.sound.capture.length ≤ captureCapacity ∧ s.sound.captureGap ≤ 65535 ∧
  (s.sound.captureFilling = true → s.sound.capture.length = captureCapacity) ∧
  (s.captureActive = false → s.sound.capture.length % voiceBlock = 0) ∧
  s.mgmt.requests.length ≤ queueDepth ∧ s.mgmt.fill ≤ queueDepth ∧
  (s.mgmt.deferred.isSome → s.power.ramp.isSome)

/-- A ready NOTICE finds the gate open and a kind pending (R163, R164), and a level kind whose condition holds is raised (R158). -/
def NoticeLaw (s : State) : Prop :=
  (s.events.notice = true → s.events.gateOpen = true ∧ s.events.pending ≠ 0) ∧
  s.levelConditions &&& ~~~s.events.raised = 0

/-- The stance in effect is at least as restrictive as the ordered stance and as every active rule's ceiling (R105); the cap and floor in
force are the stance's while SETTLED, and the ramp's goal is the stance in effect's record while CHANGING (R99, R101, R107, R108);
the ramp time is a multiple of 10 up to 1000 (R102); STANDBY allows nothing (R100); FAST is STOPPED while the stance forbids it (R18). -/
def StanceLaw (s : State) : Prop :=
  s.target.rank ≤ s.power.inEffect.rank ∧
  (match s.power.ramp with
    | none => s.power.cap = s.stance.cap ∧ s.power.floor = s.stance.floor
    | some r => r.goalCap = s.stance.cap ∧ r.goalFloor = s.stance.floor ∧ r.j < r.n ∧ r.n ≤ 100) ∧
  s.power.rampTime ≤ 1000 ∧ s.power.rampTime % 10 = 0 ∧
  (s.power.stances[3].panels = false ∧ s.power.stances[3].sound = false ∧ s.power.stances[3].voice = false ∧
    s.power.stances[3].fast = false) ∧
  (s.stance.fast = false → s.sense.fast.phase = .stopped)

/-- The law of R38: at most 64 entries, in order of time, none more than 1,000,000 µs older than the newest, whose time is the previous
pass time (R35, R37). R38 has the times strictly increase; the law asks only that they do not decrease, since after a
pause of exactly 2^32 µs a new pass bears the time of the newest entry again. -/
def PoseLaw (s : State) : Prop :=
  s.pose.history.length ≤ 64 ∧
  match s.pose.history.getLast? with
  | none => s.pose.prev = none
  | some n =>
    s.pose.prev = some n.time ∧ (∀ e ∈ s.pose.history, distance e.time n.time ≤ 1000000) ∧
      s.pose.history.Pairwise fun a b => distance b.time n.time ≤ distance a.time n.time

/-- What a panel shows: the shift within the margins (R77), the window placed by it (R78) over the SHOWING slot, nothing while it is not
ON (R65, R79), the brightness within the setpoint and the cap in force (R73), black at 0 (R71), black while the link is not UP or the
clock source is FALLBACK (R72). -/
def PanelLaw (p : Panel) (s : State) : Prop :=
  p.dx.natAbs ≤ p.marginH ∧ p.dy.natAbs ≤ p.marginV ∧
  (p.power ≠ .on → p.dx = 0 ∧ p.dy = 0 ∧ p.window = none) ∧
  p.shown ≤ p.setpoint ∧ p.shown ≤ s.power.cap ∧
  (p.window = none → p.shown = 0) ∧
  (∀ w, p.window = some w → w.column = p.marginH - p.dx ∧ w.row = p.marginV - p.dy ∧
    s.frames.slots[w.slot].phase = .showing) ∧
  (s.link.state ≠ .up ∨ s.clock.source = .fallback → p.window = none)

/-- Both panels keep their law, and the latch timer runs exactly while a panel is ON (R68). -/
def ScanoutLaw (s : State) : Prop :=
  PanelLaw s.scanout.left s ∧ PanelLaw s.scanout.right s ∧
  (s.scanout.latchDue.isSome ↔ s.scanout.left.power = .on ∨ s.scanout.right.power = .on)

/-- A playout queue in each state (R84, R86, R93): a PRIMING queue is below its start threshold (R81, R83). -/
def PlayoutLaw (start : Nat) (q : Playout) : Prop :=
  (q.phase = .idle → q = Playout.emptied) ∧ (q.phase = .priming → q.pairs.length < start) ∧
  (q.phase = .playing → q.fade = 0) ∧ q.fade ≤ 31 ∧
  (q.phase = .playing ∨ q.fade ≠ 0 → q.last.isSome ∨ q.pairs ≠ [])

/-- While sound is barred both playout queues stand IDLE and empty (R93). -/
def SilenceLaw (s : State) : Prop :=
  (s.soundBarred = true → s.sound.queueA = Playout.emptied ∧ s.sound.queueB = Playout.emptied) ∧
  PlayoutLaw s.sound.audio.startA s.sound.queueA ∧ PlayoutLaw s.sound.audio.startB s.sound.queueB ∧
  (audioConstraints s.sound.audio).all (·.1) = true

/-- The link's timers, runs and inputs in each state (R117 to R120), a cell always on the wire while cells may leave (R125), the crystal
watch (R128) and the fallback flag (R129, R131). -/
def LinkLaw (s : State) : Prop :=
  (s.link.state = .lost ↔ s.link.hold.isSome) ∧
  s.link.goodRun ≤ 7 ∧ s.link.badRun ≤ 3 ∧ (s.link.state ≠ .up → s.link.badRun = 0) ∧
  (s.link.state = .up ∨ s.link.state = .down → s.link.goodRun = 0) ∧
  (s.link.clockLoss.isSome → s.link.clockPresent = false) ∧
  (s.link.state = .down → s.link.clockPresent = false) ∧
  (s.link.state = .training ∨ s.link.state = .up → s.link.clockPresent = true ∨ s.link.clockLoss.isSome) ∧
  (s.link.state = .up → s.clock.source = .crystal → s.sender.wire.isSome) ∧
  (s.clock.watch.isSome → s.clock.source = .crystal ∧ s.clock.crystalPresent = false) ∧
  s.cause.fallback = (s.clock.source == .fallback)

/-- The fields of the writable tables lie within their ranges and constraints (R6, R9, R29, R63, R81, R100, R102, R134). -/
def TableLaw (s : State) : Prop :=
  (admitsKind .ask s.streams[0] = true ∧ s.streams[0].access = .full) ∧
  (streamConstraints s.streams.toList).all (·.1) = true ∧
  (channelConstraints s.sense.channels.toList).all (·.1) = true ∧
  (∀ c ∈ s.sense.channels.toList, c.gain ≤ 65535 ∧ 1 ≤ c.persist ∧ c.persist ≤ 255 ∧ -32768 ≤ c.offset ∧ c.offset ≤ 32767 ∧
    -32768 ≤ c.lower ∧ c.upper ≤ 32767 ∧ c.lower ≤ c.upper) ∧
  s.sense.fast.hold = false ∧
  (∀ g : ScanGroup, 50 ≤ (s.group g).period ∧ (s.group g).period ≤ 10000000) ∧
  (∀ e : Eye, 1024 ≤ (s.panel e).width ∧ (s.panel e).width ≤ 2304 ∧ (s.panel e).width % 16 = 0 ∧
    1024 ≤ (s.panel e).height ∧ (s.panel e).height ≤ 2304 ∧ (s.panel e).height % 16 = 0 ∧
    (s.panel e).marginH ≤ 128 ∧ (s.panel e).marginV ≤ 128 ∧ (s.panel e).kH ≤ 32767 ∧ (s.panel e).kV ≤ 32767 ∧
    (s.panel e).repeatLimit ≤ 7 ∧ (s.panel e).setpoint ≤ 1023) ∧
  (1 ≤ s.report.threshold ∧ s.report.threshold ≤ 60 ∧ 100 ≤ s.report.ageLimit ∧ s.report.ageLimit ≤ 10000) ∧
  (audioConstraints s.sound.audio).all (·.1) = true ∧
  (1 ≤ s.sound.audio.startA ∧ s.sound.audio.startA ≤ 1023 ∧ 1 ≤ s.sound.audio.startB ∧ s.sound.audio.startB ≤ 1023 ∧
    s.sound.audio.slipLow ≤ 1022 ∧ 2 ≤ s.sound.audio.slipHigh ∧ s.sound.audio.slipHigh ≤ 1024 ∧
    s.sound.audio.gainA ≤ 192 ∧ s.sound.audio.gainB ≤ 192 ∧ s.sound.audio.masterGain ≤ 192 ∧ s.sound.audio.captureGain ≤ 192) ∧
  (∀ r ∈ s.power.stances.toList, r.cap ≤ 1023 ∧ r.floor ≤ 192 ∧ r.fastFloor ≤ 100000) ∧
  10 ≤ s.power.staleLimit ∧ s.power.staleLimit ≤ 2000

/-- A scan group in each state (R10, R12 to R14, R17, R25): a STOPPED group holds no pass and no schedule; HELD is SLOW's, with hold yes
and the snapshot untaken; a PASSING group stands at a slot that needs a resource; a pass stands at member slots; only STEP rearms
within a pass; a group runs on a schedule exactly when its trigger is TIMER. -/
def GroupLaw (g : ScanGroup) (s : State) : Prop :=
  ((s.group g).phase = .stopped → (s.group g).pass = none ∧ (s.group g).timer = none) ∧
  ((s.group g).phase = .held → g = .slow ∧ (s.group g).hold = true ∧ s.sense.snapshot.taken = false ∧ (s.group g).pass = none) ∧
  ((s.group g).phase = .passing → (s.needs g).isSome) ∧
  (∀ p, (s.group g).pass = some p → p.todo ≠ [] ∧ ∀ k ∈ p.todo, k ∈ s.members g) ∧
  ((s.group g).phase = .armed → (s.group g).pass.isSome → (s.group g).mode = .step) ∧
  ((s.group g).phase ≠ .stopped → ((s.group g).timer.isSome ↔ (s.group g).trigger = .timer))

/-- The scan groups keep their law; a group that needs a resource finds it in use, and a resource in use serves a group that needs it
(R15). -/
def SenseLaw (s : State) : Prop :=
  GroupLaw .fast s ∧ GroupLaw .slow s ∧
  (∀ (g : ScanGroup) (r : Resource), s.needs g = some r → (s.inUse r).isSome) ∧
  ∀ (r : Resource) (u : InFlight), s.inUse r = some u → s.needs u.owner = some r

/-- All the laws together. -/
def DeviceLaw (s : State) : Prop :=
  DramLaw s ∧ FrameLaw s ∧ QueueLaw s ∧ NoticeLaw s ∧ StanceLaw s ∧ PoseLaw s ∧ ScanoutLaw s ∧ SilenceLaw s ∧ LinkLaw s ∧
  TableLaw s ∧ SenseLaw s

/-! ### Events (R157 to R163) -/

/-- The NOTICE slot after one event (R163): ready exactly when the gate is open and a kind pending, and the slot was ready, or a kind is
newly pending, or the event opened the gate. -/
def NoticeSettles (s t : State) : Prop :=
  t.events.notice = true ↔ t.events.gateOpen = true ∧ t.events.pending ≠ 0 ∧
    (s.events.notice = true ∨ t.events.pending &&& ~~~s.events.pending ≠ 0 ∨ s.events.gateOpen = false)

/-- The kinds raised by one event, and no others (R157, R163). -/
def EventsRaised (kinds : EventSet) (s t : State) : Prop :=
  t.events.raised = s.events.raised ||| kinds ∧
  (if kinds = 0 then t.events.notice = s.events.notice else NoticeSettles s t)

/-- A kind that is raised if its cause has occurred. -/
def EventKind.markIf (occurred : Bool) (k : EventKind) : EventSet := if occurred then k.mark else 0

/-- LINK_RECOVERED is raised by a good header that is the eighth in a row in LOST (R120). -/
def State.recoverMarks (s : State) : EventSet :=
  EventKind.linkRecovered.markIf (s.link.state == .lost && decide (7 ≤ s.link.goodRun))

/-! ### The link (Table 7-1, Table 7-2) -/

/-- The link's state, runs, hold timer and counters. -/
def Link.reads (l : Link) (state : LinkState) (goodRun badRun : Nat) (hold : Option Time) (counters : LinkCounters) : Prop :=
  l.state = state ∧ l.goodRun = goodRun ∧ l.badRun = badRun ∧ l.hold = hold ∧ l.counters = counters

/-- The FILLING slot, if any, emptied (R59, R60). -/
def FillingEmptied (s t : State) : Prop :=
  t.frames.slots = (match s.slotIn .filling with
    | some i => s.frames.slots.set i.val FrameSlot.emptied
    | none => s.frames.slots)

/-- FRAME_ABANDONED is raised when a FILLING slot is abandoned (R59, R60). -/
def State.abandonMarks (s : State) : EventSet := EventKind.frameAbandoned.markIf (s.slotIn .filling).isSome

/-- The panels black and the playout queues emptied (R72, R93). -/
def DarkAndSilent (s t : State) : Prop :=
  t.scanout.left = s.scanout.left.black ∧ t.scanout.right = s.scanout.right.black ∧
  t.sound.queueA = Playout.emptied ∧ t.sound.queueB = Playout.emptied

/-- The entry to LOST (R119, Table 7-2), but for the events raised. -/
def EntersLost (s t : State) (counters : LinkCounters) : Prop :=
  t.link.reads .lost 0 0 (some (s.clock.now + 250000)) { counters with losses := counters.losses + 1 } ∧
  DarkAndSilent s t ∧ FillingEmptied s t

/-- A good header makes the link UP, and the first grant is made at once (R118, R120, R125): the source is CRYSTAL and no cell of before is
still on the wire (log 30). -/
def State.opensLane (s : State) : Bool :=
  (s.link.state == .training || s.link.state == .lost) && decide (7 ≤ s.link.goodRun) && s.clock.source == .crystal &&
    s.sender.wire.isNone

/-- The link after a good header (Table 7-1): the eighth in a row makes the link UP. -/
def AfterGoodHeader (s t : State) : Prop :=
  (s.link.state = .down → t.link.reads .down s.link.goodRun s.link.badRun s.link.hold s.link.counters) ∧
  (s.link.state = .training → s.link.goodRun < 7 →
    t.link.reads .training (s.link.goodRun + 1) s.link.badRun s.link.hold s.link.counters) ∧
  (s.link.state = .training → 7 ≤ s.link.goodRun → t.link.reads .up 0 0 s.link.hold s.link.counters) ∧
  (s.link.state = .up → t.link.reads .up s.link.goodRun 0 s.link.hold s.link.counters) ∧
  (s.link.state = .lost → s.link.goodRun < 7 →
    t.link.reads .lost (s.link.goodRun + 1) s.link.badRun s.link.hold s.link.counters) ∧
  (s.link.state = .lost → 7 ≤ s.link.goodRun →
    t.link.reads .up 0 0 none { s.link.counters with recoveries := s.link.counters.recoveries + 1 })

/-! ### Cells (R123, R135 to R137) -/

/-- The stream on which a cell is handed to the Stream Filter: a cell that passes its checks (R122, R123). The RESET cell of stream 0 is
apart (R138), and FILL is not handed on. -/
def State.handedStream (c : Instr) (s : State) : Option (Fin 32) :=
  match c with
  | .picOpen i _ _ _ => some i
  | .picBand i _ eye band rows => if bandRowsFit rows && s.bandLengthOk eye band rows then some i else none
  | .picClose i _ => some i
  | .sound i pairs => if soundPairsFit pairs then some i else none
  | .ask i _ _ operands => if askOperandsFit operands then some i else none
  | .reset i => if i = 0 then none else some i
  | _ => none

/-- An entry admits a cell (Table 8-2). -/
def admitsCell (c : Instr) (e : StreamEntry) : Bool :=
  match c with
  | .picOpen _ _ _ _ => admitsKind .picture e
  | .picBand _ _ _ _ _ => admitsKind .picture e
  | .picClose _ _ => admitsKind .picture e
  | .sound _ _ => admitsKind .sound e
  | .ask _ _ _ _ => admitsKind .ask e
  | _ => false

/-- The stream's entry counted as accepted or discarded (R137). -/
def CountedOn (i : Fin 32) (taken : Bool) (s t : State) : Prop :=
  t.streams = s.streams.set i.val (if taken then { s.streams[i] with accepted := s.streams[i].accepted + 1 }
    else { s.streams[i] with discarded := s.streams[i].discarded + 1 })

/-- What the hand-on and the counting of a cell change. -/
def handOnParts : List Part := [.counters, .streams]

/-- The link after a cell is handed on, given its reading `u` after the cell's good header (R123, R124). -/
def HandedOn (u t : State) : Prop :=
  t.link = { u.link with counters := { u.link.counters with handedOn := u.link.counters.handedOn + 1 } }

/-! ### Frames (R41 to R52) -/

/-- Every band of both eyes has been received (R52). -/
def BandsComplete (f : FrameSlot) (s : State) : Prop :=
  (∀ i, i < s.scanout.left.bandCount → i ∈ f.left) ∧ ∀ i, i < s.scanout.right.bandCount → i ∈ f.right

/-- A slot, if any, made EMPTY. -/
def clearSlot (i : Option (Fin 3)) (slots : Vector FrameSlot 3) : Vector FrameSlot 3 :=
  match i with
  | some i => slots.set i.val FrameSlot.emptied
  | none => slots

/-- One, when a frame is superseded (R57). -/
def oneIf (i : Option (Fin 3)) : Count := if i.isSome then 1 else 0

/-- Slot `i` of `slots`, closed with record `f` and no writes outstanding, completes (R52). -/
def Completes (i : Fin 3) (f : FrameSlot) (slots : Vector FrameSlot 3) (superseded : Count) (s t : State) (kinds : EventSet) : Prop :=
  (BandsComplete f s →
    t.frames.slots = (clearSlot (s.slotIn .ready) slots).set i.val { f with phase := .ready } ∧
    t.frames.superseded = superseded + oneIf (s.slotIn .ready) ∧ EventsRaised kinds s t) ∧
  (¬ BandsComplete f s →
    t.frames.slots = slots.set i.val FrameSlot.emptied ∧ t.frames.superseded = superseded ∧
    EventsRaised (kinds ||| EventKind.frameDiscarded.mark) s t)

/-- A reset cancels the band writes in flight and empties the slots; a byte outside the places of the cancelled writes keeps its value
(R43). -/
def SlotsCancelled (s t : State) : Prop :=
  (∀ i : Fin 3, t.frames.slots[i] = FrameSlot.emptied) ∧ t.frames.writes = [] ∧
  ∀ a : Nat, (∀ w ∈ s.frames.writes, ¬ (w.place ≤ a ∧ a < w.place + w.rows.length)) →
    Memory.readByte t.frames.dram a = Memory.readByte s.frames.dram a

/-! ### Sound (R85, R86) -/

/-- At fade step `k` a queue gives its last pair scaled by (32 − k) / 32, truncated toward zero; silence when it has none (R86). -/
def FadeGives (q : Playout) (k : Nat) (c : SoundPair) : Prop :=
  (q.last = none → c = ⟨0, 0⟩) ∧
  ∀ p : SoundPair, q.last = some p → c = ⟨(p.left * (32 - k)).tdiv 32, (p.right * (32 - k)).tdiv 32⟩

/-- What a playout queue `q` gives at a tick, `c`, and the queue after it (R85, R86). -/
def GivesAtTick (q after : Playout) (c : SoundPair) : Prop :=
  (q.phase = .idle → after = q ∧ c = ⟨0, 0⟩) ∧
  (q.phase = .playing → ∀ (p : SoundPair) (rest : List SoundPair), q.pairs = p :: rest →
    after = { q with pairs := if q.hold then p :: rest else rest, last := some p, hold := false } ∧ c = p) ∧
  (q.phase = .playing → q.pairs = [] →
    after = { q with phase := .priming, fade := 1, hold := false } ∧ FadeGives q 1 c) ∧
  (q.phase = .priming → q.fade = 0 → after = q ∧ c = ⟨0, 0⟩) ∧
  (q.phase = .priming → q.fade ≠ 0 →
    after = { q with fade := if q.fade + 1 < 32 then q.fade + 1 else 0 } ∧ (q.fade ≤ 31 → FadeGives q (q.fade + 1) c))

/-! ### Samples and the pose (R21, R22, R35, R36) -/

/-- A completed sample of corrected value `v` and time `at` (R21 steps 2 to 4, R22): the latest record, the extremes, and the judging. -/
def Sampled (c : Channel) (v : Int) (stamp : Time) (old new : SampleState) : Prop :=
  new.value = v ∧ new.time = stamp ∧ new.valid = true ∧ new.extremesValid = true ∧
  new.min = (if old.extremesValid then min old.min v else v) ∧ new.max = (if old.extremesValid then max old.max v else v) ∧
  (c.rangeMode = .off → new.run = old.run ∧ new.alarm = old.alarm ∧ new.sticky = old.sticky ∧ new.side = old.side) ∧
  ∀ cond : Bool, c.rangeMode ≠ .off →
    cond = (if c.rangeMode = .outside then decide (c.upper < v ∨ v < c.lower) else decide (c.lower ≤ v ∧ v ≤ c.upper)) →
    (cond = old.alarm → new.run = 0 ∧ new.alarm = old.alarm ∧ new.sticky = old.sticky ∧ new.side = old.side) ∧
    (cond ≠ old.alarm → old.run + 1 < c.persist →
      new.run = old.run + 1 ∧ new.alarm = old.alarm ∧ new.sticky = old.sticky ∧ new.side = old.side) ∧
    (cond ≠ old.alarm → c.persist ≤ old.run + 1 →
      new.run = 0 ∧ new.alarm = cond ∧
      (cond = true → old.sticky = false → new.sticky = true ∧
        new.side = (if c.rangeMode = .inside then .within else if c.upper < v then .above else .below)) ∧
      (cond = false ∨ old.sticky = true → new.sticky = old.sticky ∧ new.side = old.side))

/-- A FAST pass taken by the Pose Integrator (R35, R36). -/
def Integrated (old new : Pose) (start : Time) (yaw pitch : Option Int) : Prop :=
  (yaw = none → pitch = none → new = old) ∧
  (yaw.isSome ∨ pitch.isSome →
    new.prev = some start ∧ new.history = appendPose old.history ⟨start, new.yaw, new.pitch⟩ ∧
    (old.prev = none → new.yaw = old.yaw ∧ new.pitch = old.pitch) ∧
    ∀ before : Time, old.prev = some before →
      new.yaw = old.yaw + BitVec.ofInt 48 (yaw.getD 0 * (min (distance before start) 4095 : Nat)) ∧
      new.pitch = old.pitch + BitVec.ofInt 48 (pitch.getD 0 * (min (distance before start) 4095 : Nat)))

/-! ### Passes, triggers and the arbiters (R10 to R15, R17, R21, R24 to R27) -/

/-- A group that has just been granted a resource: its pass starts with its first burst or conversion (R13). -/
def Group.granted (now : Time) (x : Group) : Group :=
  { x with pass := x.pass.map fun p => { p with start := some (p.start.getD now) } }

/-- Group `g` waits in `m` for a free resource, and has it in `t`. -/
def Granted (g : ScanGroup) (m t : State) : Prop :=
  ∃ y : Resource, m.needs g = some y ∧ m.inUse y = none ∧ t.inUse y = some ⟨g, m.clock.now⟩

/-- What the two arbiters make of `m` (R15): a resource in use stays with its group; a free one goes to FAST if FAST waits for it, else to
SLOW if SLOW does, and its burst or conversion starts now; else it stays free. -/
def ArbitersAct (m t : State) : Prop :=
  (∀ y : Resource,
    ((m.inUse y).isSome → t.inUse y = m.inUse y) ∧
    (m.inUse y = none → m.needs .fast = some y → t.inUse y = some ⟨.fast, m.clock.now⟩) ∧
    (m.inUse y = none → m.needs .fast ≠ some y → m.needs .slow = some y → t.inUse y = some ⟨.slow, m.clock.now⟩) ∧
    (m.inUse y = none → m.needs .fast ≠ some y → m.needs .slow ≠ some y → t.inUse y = none)) ∧
  ∀ g : ScanGroup, (Granted g m t → t.group g = (m.group g).granted m.clock.now) ∧ (¬ Granted g m t → t.group g = m.group g)

/-- What the arbiters can change. -/
def arbiterParts : List Part := [.fast, .slow, .port, .converter]

/-- Group `g` has moved to STOPPED (R17): its pass or held trigger and its schedule are gone, what it had in flight is abandoned, and a
freed resource has gone to the other group if that waits for it. -/
def GroupStopped (g : ScanGroup) (s t : State) : Prop :=
  ∃ m : State, ChangesOnly arbiterParts s m ∧
    m.group g = { s.group g with phase := .stopped, pass := none, timer := none } ∧
    (∀ h : ScanGroup, h ≠ g → m.group h = s.group h) ∧
    (∀ y : Resource, m.inUse y = (s.inUse y).filter fun v => v.owner != g) ∧
    ArbitersAct m t

/-- The samples `es` have been offered to the Sample Queue in order (R26, R27, R30): they join while it holds fewer than 512 entries, the
others are counted as gaps. A new head whose time reads as after now has expired: log 32's choice. -/
def Offered (es : List SampleEntry) (m t : State) : Prop :=
  t.report.queue = m.report.queue ++ es.take (512 - m.report.queue.length) ∧
  (es.length ≤ 512 - m.report.queue.length → t.report.gap = m.report.gap ∧ t.report.filling = m.report.filling) ∧
  (512 - m.report.queue.length < es.length → t.report.filling = true ∧
    t.report.gap = min 65535 (m.report.gap + (es.length - (512 - m.report.queue.length)))) ∧
  t.report.expired = (match m.report.queue, es with
    | [], e :: _ => decide (m.report.ageLimit ≤ distance e.time m.clock.now)
    | _, _ => m.report.expired)

/-- Slot `k` takes its raw value from a burst: its source is a motion source (R13). -/
def State.takesBurst (s : State) (k : Fin 16) : Bool := s.sense.channels[k].source.any fun src => decide (src.val < 6)

/-- The sample slot `k` takes from a burst's raw values, stamped with the burst's start (R13, R20). -/
def State.burstSample (b : HeldBurst) (s : State) (k : Fin 16) : SampleEntry :=
  ⟨k, saturate (-32768) 32767 (roundDiv ((((s.sense.channels[k].source.map (axisValue b.raw)).getD 0) +
    s.sense.channels[k].offset) * s.sense.channels[k].gain) 4096), b.time⟩

/-- Of the slots that a pass stands at, those that complete at once from the burst it holds (R13, R14): the motion slots up to the first
analog slot; in mode STEP at most the one slot. -/
def State.servedAtOnce (burst : Option HeldBurst) (mode : ScanMode) (todo : List (Fin 16)) (s : State) : List (Fin 16) :=
  match burst with
  | none => []
  | some _ => (if mode = .step then todo.take 1 else todo).takeWhile s.takesBurst

/-- The samples of those slots. -/
def State.samplesAtOnce (burst : Option HeldBurst) (ks : List (Fin 16)) (s : State) : List SampleEntry :=
  match burst with
  | none => []
  | some b => ks.map (s.burstSample b)

/-- The kinds that the completion of the samples `taken`, and of the pass if it ends with them, raises (R22, R24, R27, R36). -/
def State.passMarks (g : ScanGroup) (start : Time) (taken : List SampleEntry) (done : Bool) (m t : State) : EventSet :=
  EventKind.rangeAlarm.markIf (taken.any fun e => t.sense.samples[e.slot].sticky && !m.sense.samples[e.slot].sticky) |||
  EventKind.sampleQueueFull.markIf (!m.report.filling &&
    decide (512 - m.report.queue.length < (taken.filter fun e => m.sense.channels[e.slot].report).length)) |||
  EventKind.gyroGap.markIf (done && g == .fast && ((t.roleValue .yaw).isSome || (t.roleValue .pitch).isSome) &&
    m.pose.prev.any fun before => decide (4095 < distance before start)) |||
  EventKind.snapshotReady.markIf (done && g == .slow && (m.group g).hold)

/-- Group `g`'s pass `p` has taken the samples `taken` and stands at the slots `rest`, the arbiters yet to act (R13, R14, R21, R24, R26,
R35). With slots left the group waits PASSING, or, in mode STEP after a sample, ARMED; with none the pass completes. -/
def PassAdvances (g : ScanGroup) (p : Pass) (taken : List SampleEntry) (rest : List (Fin 16)) (m t : State) : Prop :=
  ChangesOnly [.fast, .slow, .samples, .snapshot, .sampleQueue, .pose, .raised, .notice] m t ∧
  (∀ h : ScanGroup, h ≠ g → t.group h = m.group h) ∧
  (∀ k : Fin 16, k ∉ taken.map (·.slot) → t.sense.samples[k] = m.sense.samples[k]) ∧
  (∀ e ∈ taken, Sampled m.sense.channels[e.slot] e.value e.time m.sense.samples[e.slot] t.sense.samples[e.slot]) ∧
  Offered (taken.filter fun e => m.sense.channels[e.slot].report) m t ∧
  EventsRaised (m.passMarks g (p.start.getD m.clock.now) taken rest.isEmpty t) m t ∧
  (rest ≠ [] →
    t.group g = { m.group g with
      phase := if (m.group g).mode = .step ∧ taken ≠ [] then .armed else .passing
      pass := some { p with todo := rest } } ∧
    t.pose = m.pose ∧ t.sense.snapshot = m.sense.snapshot) ∧
  (rest = [] →
    t.group g = { m.group g with
      passes := (m.group g).passes + 1
      pass := none
      phase := if (m.group g).mode = .once then .stopped else .armed
      timer := if (m.group g).mode = .once then none else (m.group g).timer } ∧
    (g = .fast → Integrated m.pose t.pose (p.start.getD m.clock.now) (t.roleValue .yaw) (t.roleValue .pitch)) ∧
    (g = .slow → t.pose = m.pose) ∧
    (g = .slow → (m.group g).hold = true → t.sense.snapshot = ⟨p.start.getD m.clock.now,
      (m.members .slow).map fun k => ⟨k, t.sense.samples[k].value, t.sense.samples[k].valid⟩, false⟩) ∧
    (g = .fast ∨ (m.group g).hold = false → t.sense.snapshot = m.sense.snapshot))

/-- A trigger has reached group `g`, the arbiters yet to act (R10, R12 to R14, R25): a STOPPED group takes none; a PASSING or HELD group
drops it with SCAN_OVERRUN; SLOW with hold yes and an untaken snapshot is HELD; an ARMED group starts a pass at its lowest member slot, or
completes one without member slots (log 19); and a STEP pass goes on at the slot it stands at. -/
def TriggerReaches (g : ScanGroup) (m t : State) : Prop :=
  ((m.group g).phase = .stopped → t = m) ∧
  ((m.group g).phase = .passing ∨ (m.group g).phase = .held →
    EventsRaised EventKind.scanOverrun.mark m t ∧ ChangesOnly eventParts m t) ∧
  ((m.group g).phase = .armed → (m.group g).pass = none →
    (g = .slow ∧ (m.group g).hold = true ∧ m.sense.snapshot.taken = false →
      t.group g = { m.group g with phase := .held } ∧ (∀ h : ScanGroup, h ≠ g → t.group h = m.group h) ∧
      ChangesOnly [.fast, .slow] m t) ∧
    (¬ (g = .slow ∧ (m.group g).hold = true ∧ m.sense.snapshot.taken = false) →
      PassAdvances g ⟨none, m.members g, none⟩ [] (m.members g) m t)) ∧
  ((m.group g).phase = .armed → ∀ p : Pass, (m.group g).pass = some p → p.todo.Nodup →
    ∀ ks : List (Fin 16), ks = m.servedAtOnce p.burst (m.group g).mode p.todo →
    PassAdvances g p (m.samplesAtOnce p.burst ks) (p.todo.drop ks.length) m t)

/-- A latch has reached the groups whose trigger is LATCH, FAST first, and then the arbiters have acted (R12, R15; the order is log 27's). -/
def LatchReaches (m t : State) : Prop :=
  ∃ a b : State,
    ((m.group .fast).trigger = .latch → TriggerReaches .fast m a) ∧ ((m.group .fast).trigger ≠ .latch → a = m) ∧
    ((m.group .slow).trigger = .latch → TriggerReaches .slow a b) ∧ ((m.group .slow).trigger ≠ .latch → b = a) ∧
    ArbitersAct b t ∧ ChangesOnly arbiterParts b t

/-! ### The mixer and the 48 kHz schedules (R85, R90, R91, R94) -/

/-- The mixer's three steps on one channel (R90): the two scaled contributions rounded and summed, the sum saturated to 24 bits, the
master gain applied, rounded and saturated again. -/
def mixedBy (a b : Int) (gainA gainB master : Nat) : Int :=
  max (-8388608) (min 8388607 (roundDiv
    (max (-8388608) (min 8388607 (roundDiv (a * gainCoefficient gainA) 32768 + roundDiv (b * gainCoefficient gainB) 32768)) *
      gainCoefficient master) 32768))

/-- The next moment of a 48 kHz schedule: 125 sixths of a microsecond, 20 5/6 µs, later (R85, R94). -/
def NextOf48 (r next : Rate48) : Prop :=
  next.due = r.due + BitVec.ofNat 32 ((125 + r.sixths) / 6) ∧ next.sixths = (125 + r.sixths) % 6

/-! ### Panel power (Table 4-3) -/

/-- A panel acts on its demand (R65, R66, Table 4-3): OFF goes STARTING for 20 ms; STARTING and ON go STOPPING for 10 ms, ON going dark;
nothing else moves. -/
def FollowsDemand (demand : Bool) (now : Time) (p q : Panel) : Prop :=
  (p.power = .off → demand = true → q = { p with power := .starting, seqEnd := now + 20000 }) ∧
  (p.power = .starting → demand = false → q = { p with power := .stopping, seqEnd := now + 10000 }) ∧
  (p.power = .on → demand = false → q = { p with
    power := .stopping, seqEnd := now + 10000, dx := 0, dy := 0, shown := 0, window := none }) ∧
  (p.power = .stopping ∨ (p.power = .off ∧ demand = false) ∨ ((p.power = .starting ∨ p.power = .on) ∧ demand = true) → q = p)

/-! ### Frame latches (R53, R54, R74 to R77) -/

/-- A latch's promotion (R53, R54). -/
def Promoted (s t : State) : Prop :=
  (∀ r : Fin 3, s.slotIn .ready = some r →
    t.frames.slots = (clearSlot (s.slotIn .showing) s.frames.slots).set r.val
      { s.frames.slots[r] with phase := .showing, repeats := 0 }) ∧
  (∀ o : Fin 3, s.slotIn .ready = none → s.slotIn .showing = some o →
    t.frames.slots = s.frames.slots.set o.val { s.frames.slots[o] with repeats := min 255 (s.frames.slots[o].repeats + 1) }) ∧
  (s.slotIn .ready = none → s.slotIn .showing = none → t.frames.slots = s.frames.slots)

/-- The shift a panel wants for the SHOWING frame, before the clamp (R75, R76, Table 4-5): none for a NO_SHIFT frame, a panel whose
shift is not enabled, or a lookup that gives no deltas. -/
def Panel.wantedShift (p : Panel) (f : FrameSlot) (history : List PoseEntry) : Int × Int :=
  if f.noShift || !p.shiftEnable then (0, 0)
  else
    match f.renderTime.bind fun time => (lookupPose history time).deltas with
    | none => (0, 0)
    | some d => (roundDiv (d.1 * p.kH) 4096000000, roundDiv (d.2 * p.kV) 4096000000)

/-- An ON panel shows the SHOWING frame: within its repeat limit, the link UP and the source CRYSTAL (R71). -/
def State.showsFrame (e : Eye) (f : FrameSlot) (s : State) : Bool :=
  (s.panel e).power == .on && decide (f.repeats ≤ (s.panel e).repeatLimit) && s.link.state == .up && s.clock.source == .crystal

/-- The kinds a latch raises over the SHOWING frame (R70, R74, R77). -/
def State.latchMarks (f : FrameSlot) (s : State) : EventSet :=
  EventKind.pictureStarved.markIf ([Eye.left, Eye.right].any fun e =>
    (s.panel e).power == .on && decide ((s.panel e).repeatLimit < f.repeats) && !(s.panel e).starved) |||
  EventKind.poseStale.markIf (([Eye.left, Eye.right].any fun e => s.showsFrame e f && (s.panel e).shiftEnable && !f.noShift) &&
    f.renderTime.any fun time => (lookupPose s.pose.history time).poseStale) |||
  EventKind.shiftClamped.markIf ([Eye.left, Eye.right].any fun e => s.showsFrame e f &&
    decide ((s.panel e).marginH < ((s.panel e).wantedShift f s.pose.history).1.natAbs ∨
      (s.panel e).marginV < ((s.panel e).wantedShift f s.pose.history).2.natAbs))

/-! ### Services (R142 to R149) -/

/-- Request `r` is the oldest and can be served (R144). -/
def State.oldest (r : Request) (rest : List Request) (s : State) : Prop :=
  s.mgmt.requests = r :: rest ∧ s.mgmt.fill < queueDepth

/-- Request `r` is served and passes the access check (R139, R144). -/
def State.atService (r : Request) (rest : List Request) (s : State) : Prop := s.oldest r rest ∧ s.mayAccess r = true

/-- Every request that can be served has been (R144): none waits, or the answer queue has no room. -/
abbrev State.served (s : State) : Prop := s.mgmt.requests = [] ∨ 8 ≤ s.mgmt.fill

/-- `u` is what services, each of the oldest request and each by its row's command, have made of `s` (R144). -/
inductive ServedFrom : State → State → Prop
  | refl (s : State) : ServedFrom s s
  | serve (s t u : State) (r : Request) (rest : List Request) :
    s.oldest r rest → exec r.service s = .next t → ServedFrom t u → ServedFrom s u

/-- A request that is refused UNKNOWN for its operation, its table, or operands that end too soon (R146, Table 11-5): 6 bytes stand
before the image of a WRITE. -/
def Request.undefinedOrShort (r : Request) : Prop :=
  r.op ∉ [0x01#8, 0x02#8, 0x03#8, 0x10#8, 0x11#8, 0x12#8, 0x13#8, 0x14#8, 0x15#8, 0x20#8, 0x21#8, 0x22#8, 0x23#8, 0x30#8, 0x31#8] ∨
  (r.op = 0x01#8 ∨ r.op = 0x02#8) ∧ r.table = none ∨
  ∃ p ∈ [(0x01#8, 2), (0x02#8, 6), (0x03#8, 3), (0x10#8, 4), (0x11#8, 4), (0x12#8, 4), (0x13#8, 4), (0x14#8, 1), (0x20#8, 1),
    (0x21#8, 1), (0x22#8, 2), (0x23#8, 2), (0x30#8, 1)], r.op = p.1 ∧ r.operands.length < p.2

/-- The request has left its queue, and its answer stands at the tail of the answer queue (R143, R144). -/
def Answered (rest : List Request) (a : Answer) (s t : State) : Prop :=
  t.mgmt.requests = rest ∧ t.mgmt.answers = s.mgmt.answers ++ [a]

def Request.done (r : Request) (value : List Slot) : Answer := ⟨r.stream, r.tag, .done, none, none, value⟩
def Request.refusal (r : Request) (why : Reason) (field : Option Nat) : Answer := ⟨r.stream, r.tag, .refused, some why, field, []⟩
def Request.turnedAway (r : Request) (field : Option Nat) : Answer := ⟨r.stream, r.tag, .busy, none, field, []⟩

/-- The operands of a WRITE (Table 11-5, R172): table, index, mask, image, and bytes that are ignored (R146). -/
def writeOperands (table index : Nat) (mask : BitVec 32) (image : List Slot) (extra : List Byte) : List Byte :=
  le 1 table ++ le 1 index ++ le 4 mask.toNat ++ image.flatMap (fun v => le 4 v.toNat) ++ extra

/-- The image of a WRITE: the masked slots hold the values written, the others are ignored, whatever they hold (R146, R172). -/
def maskedImage (mask : BitVec 32) (values ignored : List Slot) : List Slot :=
  (List.range values.length).map fun k => if mask.getLsbD k then values.getD k 0 else ignored.getD k 0

/-- A field after a WRITE: the value written if the mask names it, else the old one (R149). -/
def pick {α : Type} (mask : BitVec 32) (k : Nat) (written old : α) : α := if mask.getLsbD k then written else old

/-- A level number, clamped to its range (R148). -/
def clamped (lo hi : Nat) (v : Slot) : Nat := max lo (min hi v.toNat)

/-- A field of an entry that no WRITE may name (R148, R100, R134). -/
def ReadOnlyField (t : Table) (index k : Nat) : Prop :=
  t.writableSlots ≤ k ∨ (t = .streams ∧ index = 0) ∨ (t = .stances ∧ index = 3 ∧ 3 ≤ k)

/-- The five slots that an event operation answers with (Table 11-5). -/
def Events.slots (e : Events) : List Slot :=
  [e.raised.setWidth 32, e.enabled.setWidth 32, (e.raised &&& e.enabled).setWidth 32, slotBool e.gateOpen, slotBool e.lock]

/-- The value of a masked structural field lies outside its range or its coding (R6, R9, R63, R81, R100, R102, R103, R134, R148, R172): a
WRITE that gives it is refused RANGE. A level field has none; it is clamped. -/
def outOfRange (t : Table) (index k : Nat) (v : Slot) : Bool :=
  match t, k with
  | .streams, 0 | .streams, 2 | .streams, 3 => 1 < v.toNat
  | .streams, 1 => 3 < v.toNat
  | .channels, 0 => 16 < v.toNat
  | .channels, 1 | .channels, 2 | .channels, 6 => 2 < v.toNat
  | .channels, 3 => 1 < v.toNat
  | .channels, 4 | .channels, 7 | .channels, 8 => v.toInt < -32768 || 32767 < v.toInt
  | .channels, 5 => 65535 < v.toNat
  | .groups, 0 | .groups, 1 => 2 < v.toNat
  | .groups, 3 => 1 < v.toNat || (index == 0 && v == 1)
  | .panels, 0 | .panels, 1 => v.toNat < 1024 || 2304 < v.toNat || v.toNat % 16 != 0
  | .panels, 2 | .panels, 3 => 128 < v.toNat
  | .panels, 6 => 1 < v.toNat
  | .scanout, 0 => 1 < v.toNat
  | .scanout, 1 => !([72, 80, 90, 120, 144].contains v.toNat)
  | .audio, 0 | .audio, 1 => v.toNat < 1 || 1023 < v.toNat
  | .audio, 2 => 1022 < v.toNat
  | .audio, 3 => v.toNat < 2 || 1024 < v.toNat
  | .audio, 8 => 1 < v.toNat
  | .stances, 3 | .stances, 4 | .stances, 5 | .stances, 6 => 1 < v.toNat
  | .stanceLimits, 1 => 1000 < v.toNat || v.toNat % 10 != 0
  | .rules, 0 => 1 < v.toNat
  | .rules, 1 => 15 < v.toNat
  | .rules, 2 => 3 < v.toNat
  | _, _ => false

/-- A playout queue's state as an image codes it: IDLE 0, PRIMING 1, PLAYING 2 (R84, R172). -/
def Playout.phaseSlot (q : Playout) : Slot :=
  match q.phase with
  | .idle => 0
  | .priming => 1
  | .playing => 2

/-- The entry images of the read-only tables but SNAPSHOT, field by field in the order of Table 11-6, with the codings of R172. -/
def ReadOnlyImages : Prop :=
  (∀ (s : State) (k : Fin 16) (x : SampleState), x = s.sense.samples[k] → State.entryImage .senseState k.val s =
    some [slotInt x.value, x.time, slotBool x.valid, slotInt x.min, slotInt x.max, slotBool x.extremesValid, slotNat x.run,
      slotBool x.alarm, slotBool x.sticky, (match x.side with
        | .none => 0
        | .above => 1
        | .below => 2
        | .within => 3)]) ∧
  (∀ (s : State) (i : Fin 3) (f : FrameSlot), f = s.frames.slots[i] → State.entryImage .slots i.val s =
    some [(match f.phase with
        | .empty => 0
        | .filling => 1
        | .closing => 2
        | .ready => 3
        | .showing => 4),
      slotBool f.frame.isSome, (f.frame.getD 0).setWidth 32, slotBool f.renderTime.isSome, f.renderTime.getD 0, slotBool f.noShift,
      slotNat f.left.length, slotNat s.scanout.left.bandCount, slotNat f.right.length, slotNat s.scanout.right.bandCount,
      slotNat (s.outstanding i), slotNat f.repeats]) ∧
  (∀ s : State, State.entryImage .pose 0 s =
    some [slotInt s.pose.yaw.toInt, slotInt (s.pose.yaw.toInt / 4294967296), slotInt s.pose.pitch.toInt,
      slotInt (s.pose.pitch.toInt / 4294967296), slotNat s.pose.history.length, slotBool (!s.pose.history.isEmpty),
      (s.pose.history.getLast?.map (·.time)).getD 0]) ∧
  (∀ s : State, State.entryImage .queues 0 s =
    some [slotNat s.report.queue.length, slotNat s.report.gap, s.sound.queueA.phaseSlot, slotNat s.sound.queueA.pairs.length,
      slotNat s.sound.queueA.fade, s.sound.queueB.phaseSlot, slotNat s.sound.queueB.pairs.length, slotNat s.sound.queueB.fade,
      slotNat s.sound.capture.length, slotNat s.sound.captureGap, slotBool (s.sound.audio.captureEnable && s.stance.voice),
      slotNat s.mgmt.requests.length, slotNat s.mgmt.answers.length, slotBool s.mgmt.deferred.isSome,
      (s.mgmt.deferred.map fun d => slotNat d.stream.val).getD 0, (s.mgmt.deferred.map fun d => d.tag.setWidth 32).getD 0]) ∧
  (∀ s : State, State.entryImage .powerState 0 s =
    some [slotNat s.power.ordered.rank, slotNat s.power.inEffect.rank, slotBool s.power.ramp.isSome, slotNat s.power.cap,
      slotNat s.power.floor, (s.power.ramp.map fun r => slotNat r.goalCap).getD 0, (s.power.ramp.map fun r => slotNat r.goalFloor).getD 0,
      (s.power.ramp.map fun r => slotNat r.n).getD 0, (s.power.ramp.map fun r => slotNat r.j).getD 0,
      s.power.active.setWidth 32, s.power.stale.setWidth 32]) ∧
  (∀ s : State, State.entryImage .events 0 s =
    some [s.events.raised.setWidth 32, s.events.enabled.setWidth 32, (s.events.raised &&& s.events.enabled).setWidth 32,
      s.levelConditions.setWidth 32, slotBool s.events.gateOpen, slotBool s.events.lock, slotBool s.events.notice]) ∧
  (∀ (s : State) (c : LinkCounters), c = s.link.counters → State.entryImage .counters 0 s =
    some ([c.handedOn, c.badHeader, c.unknownKind, c.runt, c.badPayload, c.losses, c.recoveries, c.holdExpiries, s.frames.superseded] ++
      s.streams.toList.flatMap fun e => [e.accepted, e.discarded])) ∧
  ∀ s : State, State.entryImage .cause 0 s =
    some [(match s.cause.kind with
        | .powerOn => 0
        | .tether => 1
        | .linkLoss => 2), slotBool s.cause.fallback]

/-- The entry images of the writable tables and of SNAPSHOT, field by field in the order of Table 11-6; a group's effective period as R11
gives it, from the motion and the analog slots that are its members. -/
def WritableImages : Prop :=
  (∀ (s : State) (i : Fin 32) (e : StreamEntry), e = s.streams[i] → State.entryImage .streams i.val s =
    some [slotBool e.enabled, slotNat e.accepts.code, slotNat e.sink.code, slotNat e.access.code, e.accepted, e.discarded]) ∧
  (∀ (s : State) (k : Fin 16) (c : Channel), c = s.sense.channels[k] → State.entryImage .channels k.val s =
    some [slotNat ((c.source.map Fin.val).getD 16), slotNat c.group.code, slotNat c.role.code, slotBool c.report, slotInt c.offset,
      slotNat c.gain, slotNat c.rangeMode.code, slotInt c.lower, slotInt c.upper, slotNat c.persist]) ∧
  (∀ (s : State) (g : ScanGroup) (x : Group), x = s.group g → ∀ motion analog : Nat,
    motion = ((s.members g).filter fun k => s.sense.channels[k].source.any fun src => decide (src.val < 6)).length →
    analog = ((s.members g).filter fun k => s.sense.channels[k].source.any fun src => decide (6 ≤ src.val)).length →
    State.entryImage .groups (if g = .fast then 0 else 1) s =
      some [slotNat x.mode.code, slotNat x.trigger.code, slotNat x.period, slotBool x.hold, slotNat x.phase.code, x.passes,
        slotNat (max (max x.period ((if motion = 0 then 0 else 24) + 3 * analog)) (if g = .fast then s.stance.fastFloor else 0))]) ∧
  (∀ (s : State) (e : Eye) (p : Panel), p = s.panel e → State.entryImage .panels (if e = .left then 0 else 1) s =
    some [slotNat p.width, slotNat p.height, slotNat p.marginH, slotNat p.marginV, slotNat p.kH, slotNat p.kV, slotBool p.shiftEnable,
      slotNat p.repeatLimit, slotNat p.setpoint, slotNat p.power.code, slotInt p.dx, slotInt p.dy, slotNat p.shown,
      slotBool p.starved]) ∧
  (∀ s : State, State.entryImage .scanout 0 s =
    some [slotBool s.scanout.enable, slotNat s.scanout.refresh.code, s.scanout.latchCount]) ∧
  (∀ (s : State) (a : AudioRecord), a = s.sound.audio → State.entryImage .audio 0 s =
    some [slotNat a.startA, slotNat a.startB, slotNat a.slipLow, slotNat a.slipHigh, slotNat a.gainA, slotNat a.gainB,
      slotNat a.masterGain, slotNat a.captureGain, slotBool a.captureEnable]) ∧
  (∀ s : State, State.entryImage .report 0 s = some [slotNat s.report.threshold, slotNat s.report.ageLimit]) ∧
  (∀ (s : State) (i : Fin 4) (x : StanceRecord), x = s.power.stances[i] → State.entryImage .stances i.val s =
    some [slotNat x.cap, slotNat x.floor, slotNat x.fastFloor, slotBool x.panels, slotBool x.sound, slotBool x.voice,
      slotBool x.fast]) ∧
  (∀ s : State, State.entryImage .stanceLimits 0 s = some [slotNat s.power.staleLimit, slotNat s.power.rampTime]) ∧
  (∀ (s : State) (i : Fin 8) (x : Rule), x = s.power.rules[i] → State.entryImage .rules i.val s =
    some [slotBool x.enabled, slotNat x.slot.val, slotNat x.ceiling.rank]) ∧
  ∀ (s : State) (x : Snapshot), x = s.sense.snapshot → State.entryImage .snapshot 0 s =
    some ([x.start, slotBool x.taken, slotNat x.entries.length] ++
      x.entries.flatMap fun e => [slotNat e.slot.val, slotInt e.value, slotBool e.valid])

/-- The codings of the enumerated fields (R172): the position of a value in its chapter's list, and a refresh code as its rate. -/
def Codings : Prop :=
  [Accepts.none, .picture, .sound, .ask].map Accepts.code = [0, 1, 2, 3] ∧ [Sink.a, .b].map Sink.code = [0, 1] ∧
  [Access.full, .limited].map Access.code = [0, 1] ∧ [GroupField.none, .fast, .slow].map GroupField.code = [0, 1, 2] ∧
  [Role.none, .yaw, .pitch].map Role.code = [0, 1, 2] ∧ [RangeMode.off, .outside, .inside].map RangeMode.code = [0, 1, 2] ∧
  [ScanMode.once, .continuous, .step].map ScanMode.code = [0, 1, 2] ∧ [Trigger.timer, .latch, .order].map Trigger.code = [0, 1, 2] ∧
  [GroupPhase.stopped, .armed, .passing, .held].map GroupPhase.code = [0, 1, 2, 3] ∧
  [PanelPower.off, .starting, .on, .stopping].map PanelPower.code = [0, 1, 2, 3] ∧
  [RefreshCode.hz72, .hz80, .hz90, .hz120, .hz144].map RefreshCode.code = [72, 80, 90, 120, 144] ∧
  [Stance.full, .reduced, .minimal, .standby].map Stance.rank = [0, 1, 2, 3]

/-- A group or none, to be STOPPED for a write of its slots (R8). -/
def State.stoppedGroup (g : GroupField) (s : State) : Prop :=
  (g = .fast → s.sense.fast.phase = .stopped) ∧ (g = .slow → s.sense.slow.phase = .stopped)

/-- The constraints of R134 on the Stream Table. -/
def StreamsFit (v : Vector StreamEntry 32) : Prop :=
  (∀ i j : Fin 32, admitsKind .picture v[i] = true → admitsKind .picture v[j] = true → i = j) ∧
  ∀ i j : Fin 32, admitsKind .sound v[i] = true → admitsKind .sound v[j] = true → v[i].sink = v[j].sink → i = j

/-- The constraints of R6 on the Channel Table. -/
def ChannelsFit (v : Vector Channel 16) : Prop :=
  (∀ i j : Fin 16, v[i].role ≠ .none → v[i].role = v[j].role → i = j) ∧
  ∀ i : Fin 16, (v[i].role ≠ .none → v[i].group = .fast) ∧ v[i].lower ≤ v[i].upper

/-! ### Pushes of the Power Unit (R111, Table 6-3) -/

/-- Capture has stopped (R95, R96): the newest partial block leaves the queue and is counted as a gap, and a filling ends as the queue holds
fewer than 1024 entries. -/
def CaptureStopped (s t : State) : Prop :=
  t.sound.capture = s.sound.capture.take (s.sound.capture.length - s.sound.capture.length % 240) ∧
  t.sound.captureGap = min 65535 (s.sound.captureGap + s.sound.capture.length % 240) ∧
  t.sound.captureFilling = (s.sound.captureFilling && decide (1024 ≤ t.sound.capture.length))

/-- The three receiving blocks have taken the stance record, cap and floor that stand in `t` (R65, R68, R73, R93, R95, R96, R18). -/
def PushTaken (s t : State) : Prop :=
  (∀ e : Eye, ∃ q : Panel, FollowsDemand (s.scanout.enable && t.stance.panels) s.clock.now (s.panel e) q ∧
    t.panel e = { q with shown := min q.shown (min q.setpoint t.power.cap) }) ∧
  t.scanout.latchDue = (if t.scanout.left.power = .on ∨ t.scanout.right.power = .on then s.scanout.latchDue else none) ∧
  (∀ k : Sink, t.playout k = if t.soundBarred then Playout.emptied else s.playout k) ∧
  (if s.captureActive && !t.captureActive then CaptureStopped s t
  else t.sound.capture = s.sound.capture ∧ t.sound.captureGap = s.sound.captureGap ∧
    t.sound.captureFilling = s.sound.captureFilling) ∧
  (if s.stance.fast && !t.stance.fast then
    GroupStopped .fast s t ∧ t.pose = { s.pose with prev := none, history := [] }
  else t.sense = s.sense ∧ t.pose = s.pose)

/-! ### Evaluations of the target stance (R105 to R107, R109, R110) -/

/-- The pending stance answer as it is placed when the stance has settled at `t` (R110, R153). -/
def State.settledAnswers (s t : State) : List Answer :=
  match s.mgmt.deferred with
  | none => []
  | some d => [⟨d.stream, d.tag, .done, none, none,
      [slotNat t.power.inEffect.rank, slotBool (decide (t.power.ordered.rank < t.power.inEffect.rank))]⟩]

/-- The target has become the stance in effect at once, with its cap and floor (R106; R107 and R109 with a ramp time of 0). -/
def ChangedAtOnce (u t : State) (placed : List Answer) : Prop :=
  t.power = { u.power with
    ramp := none
    inEffect := u.target
    cap := u.power.stances[u.target.index].cap
    floor := u.power.stances[u.target.index].floor } ∧
  PushTaken u t ∧ EventsRaised EventKind.stanceChanged.mark u t ∧ t.mgmt.deferred = none ∧
  t.mgmt.answers = u.mgmt.answers ++ u.settledAnswers t ++ placed

/-- A ramp toward the target has started (R107, R109): the permissions open at once, the cap and floor in force wait for the steps. -/
def RampStarted (u t : State) : Prop :=
  t.power = { u.power with
    ramp := some ⟨u.power.cap, u.power.floor, u.power.stances[u.target.index].cap, u.power.stances[u.target.index].floor,
      u.power.rampTime / 10, 0⟩
    inEffect := u.target } ∧
  PushTaken u t ∧ EventsRaised 0 u t

/-- The target of `u` has been evaluated (R105), and `placed` answers have been placed after whatever the evaluation placed. -/
def Evaluated (u t : State) (placed : List Answer) : Prop :=
  (u.target = u.power.inEffect → t.mgmt.answers = u.mgmt.answers ++ placed ∧ ChangesOnly [.requests, .answers] u t) ∧
  (u.power.inEffect.rank < u.target.rank → ChangedAtOnce u t placed) ∧
  (u.target.rank < u.power.inEffect.rank → u.power.rampTime = 0 → ChangedAtOnce u t placed) ∧
  (u.target.rank < u.power.inEffect.rank → u.power.rampTime ≠ 0 →
    RampStarted u t ∧ t.mgmt.deferred = u.mgmt.deferred ∧ t.mgmt.answers = u.mgmt.answers ++ placed)

end Sys2Proof.Machine
end

