-- ==== Sys2Proof/Certificates/Slice0/Obligations.lean ====
section
/-! DEFINITION. The statements for the provers: what the commands do, what they leave alone, and the laws that every step keeps. -/

section
open Sys2Proof Sys2Proof.Machine

/-! ### The step and the laws of the device -/

/-- A step with a command at the front of the queue is that command's effect on the state with the queue's rest. -/
def Obligations.StepRunsFrontCommand : Prop :=
  ∀ (c : Instr) (rest : List Instr) (s : State), s.pending = c :: rest → step s = exec c { s with pending := rest }

/-- Every command answers a next state, and leaves the waiting commands as they are. The Management Unit serves whenever it can (R144): a
command that is no request's row acts on the state in which every request that can be served has been, one after another, and on an empty
queue of commands a service is the first thing the part does. A power-on reset wipes whatever a service could change. That a service has a
command of its own is log 6's, that the part runs by itself log 1's. -/
def Obligations.EveryCommandCompletes : Prop :=
  (∀ (c : Instr) (s : State), ∃ t, exec c s = .next t ∧ t.pending = s.pending) ∧
  (∀ (c : Instr) (s : State), c ≠ .powerOnReset → (∀ r : Request, r.service ≠ c) →
    ∃ u, ServedFrom s u ∧ u.served ∧ exec c s = exec c u) ∧
  ∀ (s : State) (r : Request) (rest : List Request), s.pending = [] → s.oldest r rest → step s = exec r.service s

/-- The state after a power-on reset keeps every law of the device. -/
def Obligations.ResetKeepsDeviceLaw : Prop := DeviceLaw State.reset

/-- Every step keeps the DRAM's canonical form (log 12), the law of R41 and what Table 3-1 says of a slot in each state. -/
def Obligations.FrameStoreLawKept : Prop :=
  ∀ s t : State, DeviceLaw s → step s = .next t → DramLaw t ∧ FrameLaw t

/-- Every step keeps the capacities of the five queues (R26, R82, R95, R142, R143), the gap counts' ranges, and that a stance answer
is pending only during a ramp (R153). -/
def Obligations.QueueLawKept : Prop := ∀ s t : State, DeviceLaw s → step s = .next t → QueueLaw t

/-- Every step keeps the NOTICE slot's law (R163, R164: a ready NOTICE finds the gate open and a kind pending), the level kinds' law
(R158), and the link's, the lane's and the clocks' (R117 to R120, R125, R128, R129). -/
def Obligations.NoticeAndLinkLawKept : Prop := ∀ s t : State, DeviceLaw s → step s = .next t → NoticeLaw t ∧ LinkLaw t

/-- Every step keeps the law of R105 (the stance in effect is at least as restrictive as the ordered stance and as every active rule's
ceiling), the cap and floor in force, STANDBY's permissions, FAST's stop (R18), and the ranges and constraints of the tables. -/
def Obligations.StanceAndTableLawKept : Prop := ∀ s t : State, DeviceLaw s → step s = .next t → StanceLaw t ∧ TableLaw t

/-- Every step keeps the law of the pose history (R38). -/
def Obligations.PoseLawKept : Prop := ∀ s t : State, DeviceLaw s → step s = .next t → PoseLaw t

/-- Every step keeps what the panels show within the margins (R77), the setpoint and the cap (R73), black when it must be (R72), and both
playout queues silent while sound is barred (R93). -/
def Obligations.ScanoutAndSilenceLawKept : Prop := ∀ s t : State, DeviceLaw s → step s = .next t → ScanoutLaw t ∧ SilenceLaw t

/-- Every step keeps the laws of the scan groups and their two resources (R10, R13 to R15). -/
def Obligations.SenseLawKept : Prop := ∀ s t : State, DeviceLaw s → step s = .next t → SenseLaw t

/-! ### Cells as bytes (R167 to R171) -/

/-- A command's cell, with whatever idle bytes follow it, is received as that command: no bit of a cell is dropped (R116, R167 to R171). -/
def Obligations.CellRoundTrip : Prop :=
  ∀ c : Instr, c.wellFormed = true → ∀ bytes : List Byte, encodeCell c = some bytes → ∀ idle : List Byte,
    receiveBytes (bytes ++ idle) = .ok c

/-- A good cell with one byte changed is discarded: a changed header byte is a bad header, a changed byte of the payload or of its check
is a bad payload (R122, R168, R169). -/
def Obligations.SingleByteErrorsCaught : Prop :=
  ∀ c : Instr, c.wellFormed = true → ∀ bytes : List Byte, encodeCell c = some bytes →
    ∀ (idle : List Byte) (i : Nat) (b : Byte), i < bytes.length → bytes[i]? ≠ some b →
    receiveBytes (bytes.set i b ++ idle) = .error (if i < 8 then .badHeader else .badPayload)

/-- The coefficient of a gain code from 0 to 191 is 32768 × 10^(−g/40) rounded to the nearest integer, code 192 is mute, a higher code
never gives a larger coefficient, and Table 5-5 is as printed (R89). -/
def Obligations.GainCoefficients : Prop :=
  (∀ g : Nat, g ≤ 191 →
    |(gainCoefficient g : ℝ) - 32768 * (10 : ℝ) ^ (-(g : ℝ) / 40)| < 1 / 2) ∧
  gainCoefficient 192 = 0 ∧
  (∀ g h : Nat, g ≤ h → h ≤ 192 → gainCoefficient h ≤ gainCoefficient g) ∧
  [0, 6, 12, 20, 24, 40, 80, 120, 160, 191, 192].map gainCoefficient =
    [32768, 23198, 16423, 10362, 8231, 3277, 328, 33, 3, 1, 0]

/-- Rounding is to the nearest integer with ties away from zero (spec/00, Arithmetic); the correction of R20, the scaling of R90, the shift
of R76 and its clamp of R77 are built from it, and a gain of 0 corrects every raw value to 0. -/
def Obligations.RoundingAndScaling : Prop :=
  (∀ (n : Int) (d : Nat), 0 < d →
    2 * |d * roundDiv n d - n| ≤ d ∧ (2 * |d * roundDiv n d - n| = d → |n| < |d * roundDiv n d|)) ∧
  (∀ (c : Channel) (raw : Int), c.correct raw = max (-32768) (min 32767 (roundDiv ((raw + c.offset) * c.gain) 4096))) ∧
  (∀ (c : Channel) (raw : Int), c.gain = 0 → c.correct raw = 0) ∧
  (∀ (x : Int) (g : Nat), scaleByGain x g = roundDiv (x * gainCoefficient g) 32768) ∧
  ∀ (delta : Int) (k margin : Nat), clampShift margin (shiftOf delta k) =
    max (-(margin : Int)) (min (margin : Int) (roundDiv (delta * k) 4096000000))

/-! From here on a statement about a command other than a service is made of the states in which every request that can be served has been
(`State.served`, R144); by EveryCommandCompletes such a command on any other state does what it does on one of these. -/

/-! ### Resets (R130 to R132, and each chapter's reset rule) -/

/-- POWER_ON_RESET: every block at its power-on values. The DRAM then holds no value (R43: undefined; log 12), the schedules of ticks and
samples run on, the time to their next moment standing, by log 9, the end of a panel's sequence is 0 while none is in flight (log 26), and
the two clock inputs and the waiting commands stand (log 29). -/
def Obligations.PowerOnResetState : Prop :=
  ∀ s : State, ∃ t, exec .powerOnReset s = .next t ∧ t.pending = s.pending ∧
    t.clock = ⟨0, .crystal, s.clock.crystalPresent, if s.clock.crystalPresent then none else some 0⟩ ∧
    t.link = ⟨if s.link.clockPresent then .training else .down, 0, 0, s.link.clockPresent, none, none, LinkCounters.zero⟩ ∧
    t.cause = ⟨.powerOn, false⟩ ∧ t.mgmt = ⟨[], [], none⟩ ∧
    t.events = ⟨EventKind.resetDone.mark, 0, false, false, false⟩ ∧
    (∀ i : Fin 32, t.streams[i] = if i = 0 then ⟨true, .ask, .a, .full, 0, 0⟩ else ⟨false, .none, .a, .limited, 0, 0⟩) ∧
    (∀ i : Fin 3, t.frames.slots[i] = ⟨.empty, none, none, false, [], [], 0⟩) ∧
    t.frames.writes = [] ∧ t.frames.superseded = 0 ∧ t.frames.dram = [] ∧
    (∀ e : Eye, t.panel e = ⟨2048, 2048, 64, 64, 0, 0, false, 2, 512, .off, 0, 0, 0, 0, false, none⟩) ∧
    t.scanout.enable = false ∧ t.scanout.refresh = .hz90 ∧ t.scanout.latchCount = 0 ∧ t.scanout.latchDue = none ∧
    (∀ k : Fin 16, t.sense.samples[k] = ⟨0, 0, false, 0, 0, false, 0, false, false, .none⟩) ∧
    (∀ k : Fin 16, t.sense.channels[k] = match k.val with
      | 8 => ⟨some 6, .slow, .none, false, 0, 20480, .outside, 9000, 13500, 3⟩
      | 9 => ⟨some 7, .slow, .none, false, 0, 4096, .off, 0, 0, 1⟩
      | 10 => ⟨some 8, .slow, .none, false, 0, 20480, .off, 0, 0, 1⟩
      | 11 => ⟨some 14, .slow, .none, false, -1093, 10240, .outside, -400, 1050, 3⟩
      | _ => ⟨none, .none, .none, false, 0, 4096, .off, 0, 0, 1⟩) ∧
    t.sense.fast = ⟨.continuous, .timer, 1000, false, .stopped, 0, none, none⟩ ∧
    t.sense.slow = ⟨.continuous, .timer, 10000, false, .armed, 0, some (.first 0), none⟩ ∧
    t.sense.port = none ∧ t.sense.converter = none ∧ t.sense.snapshot = ⟨0, [], true⟩ ∧
    t.report = ⟨12, 1000, [], 0, false, false⟩ ∧ t.pose = ⟨0, 0, none, []⟩ ∧
    t.sound.audio = ⟨256, 256, 128, 768, 0, 0, 12, 0, false⟩ ∧
    (∀ k : Sink, t.playout k = ⟨.idle, [], 0, none, false⟩) ∧ t.sound.tickCount = 0 ∧ t.sound.slipDue = false ∧
    t.sound.tick = ⟨s.sound.tick.due - s.clock.now, s.sound.tick.sixths⟩ ∧
    t.sound.mic = ⟨s.sound.mic.due - s.clock.now, s.sound.mic.sixths⟩ ∧
    t.sound.capture = [] ∧ t.sound.captureGap = 0 ∧ t.sound.captureFilling = false ∧ t.sound.output = ⟨0, 0⟩ ∧
    (∀ i : Fin 4, t.power.stances[i] = match i.val with
      | 0 => ⟨1023, 0, 0, true, true, true, true⟩
      | 1 => ⟨700, 6, 1000, true, true, true, true⟩
      | 2 => ⟨300, 20, 4000, true, true, false, true⟩
      | _ => ⟨0, 192, 0, false, false, false, false⟩) ∧
    t.power.staleLimit = 200 ∧ t.power.rampTime = 300 ∧
    (∀ i : Fin 8, t.power.rules[i] = match i.val with
      | 0 => ⟨true, 8, .minimal⟩
      | 1 => ⟨true, 11, .minimal⟩
      | _ => ⟨false, 0, .full⟩) ∧
    t.power.ordered = .standby ∧ t.power.inEffect = .standby ∧ t.power.ramp = none ∧ t.power.cap = 0 ∧ t.power.floor = 192 ∧
    t.power.active = 0 ∧ t.power.stale = 0 ∧ t.power.checkDue = 10000 ∧ t.sender = ⟨.notice, none⟩

/-- RESET: on stream 0 the tether reset, on any other stream only a count (R130, R135, R137, R138). `u` is the part after the RESET cell's
good header, which a FILL's is too: the runs, the link state and the cell on the wire are those of `u`. The end of a panel's sequence is 0
while none is in flight (log 26), and the waiting commands and the cell on the wire stand (log 29). -/
def Obligations.ResetCell : Prop :=
  (∀ s : State, s.served → s.receiving = true → ∃ t u, exec (.reset 0) s = .next t ∧ exec (.fill 0) s = .next u ∧
    t.link = { u.link with counters := LinkCounters.zero } ∧
    t.cause = { s.cause with kind := .tether } ∧ (∀ i : Fin 32, t.streams[i] = defaultStream i) ∧ t.mgmt = ⟨[], [], none⟩ ∧
    t.events = ⟨EventKind.resetDone.mark ||| EventKind.clockFallback.markIf (s.clock.source == .fallback), 0, false,
      s.events.lock, false⟩ ∧
    SlotsCancelled s t ∧ t.frames.superseded = 0 ∧ t.scanout = Scanout.default ∧ t.sense = Sense.default s.clock.now ∧
    t.report = Report.default ∧ t.pose = Pose.cleared ∧ t.sound.audio = AudioRecord.default ∧
    (∀ k : Sink, t.playout k = Playout.emptied) ∧ t.sound.tickCount = 0 ∧ t.sound.slipDue = false ∧
    t.sound.tick = s.sound.tick ∧ t.sound.mic = s.sound.mic ∧ t.sound.capture = [] ∧ t.sound.captureGap = 0 ∧
    t.sound.captureFilling = false ∧ t.sound.output = ⟨0, 0⟩ ∧ t.power = Power.default s.clock.now ∧
    t.sender = ⟨.notice, u.sender.wire⟩ ∧ t.clock = s.clock ∧ t.pending = s.pending) ∧
  ∀ (i : Fin 32) (s : State), s.served → i ≠ 0 → s.receiving = true → ∃ t u, exec (.reset i) s = .next t ∧ exec (.fill 0) s = .next u ∧
    CountedOn i false s t ∧ HandedOn u t ∧ ChangesOnly handOnParts u t

/-- HOLD_EXPIRY in LOST, when headset time runs (R120, R130): the link-loss reset, which empties the queues and keeps the tables, and then
DOWN or TRAINING. FAST is stopped, and SLOW keeps its record, its count, its state, its pass and its schedule, and is at most granted a
resource that FAST gives up (R17, R19). Headset time runs on to the due time (log 2). -/
def Obligations.HoldExpiryResets : Prop :=
  ∀ s : State, s.served → s.link.state = .lost → s.timeRuns = true → ∀ d : Time, s.link.hold = some d →
    ∃ t, exec .holdExpiry s = .next t ∧ t.clock = (s.runTo d).clock ∧
      t.link.reads (if s.link.clockPresent then .training else .down) 0 0 none
        { s.link.counters with holdExpiries := s.link.counters.holdExpiries + 1 } ∧
      t.link.clockPresent = s.link.clockPresent ∧ t.link.clockLoss = (s.runTo d).link.clockLoss ∧
      t.cause = { s.cause with kind := .linkLoss } ∧ t.mgmt = ⟨[], [], none⟩ ∧
      EventsRaised EventKind.resetDone.mark s t ∧ SlotsCancelled s t ∧ t.frames.superseded = s.frames.superseded ∧
      t.scanout.left = { s.scanout.left with starved := false } ∧ t.scanout.right = { s.scanout.right with starved := false } ∧
      GroupStopped .fast (s.runTo d) t ∧
      t.report = { s.report with queue := [], gap := 0, filling := false, expired := false } ∧ t.pose = Pose.cleared ∧
      (∀ k : Sink, t.playout k = Playout.emptied) ∧ t.sound.capture = [] ∧ t.sound.captureGap = 0 ∧
      t.sound.captureFilling = false ∧ t.sender = ⟨.notice, none⟩ ∧
      ChangesOnly [.clock, .lane, .link, .counters, .cause, .requests, .answers, .deferred, .raised, .notice, .slots, .writes, .dram,
        .leftPanel, .rightPanel, .fast, .slow, .port, .converter, .sampleQueue, .pose, .queueA, .queueB, .capture, .lastCyclic,
        .wire] s t

/-! ### The link and the clocks (R117 to R120, R122, R128, R129) -/

/-- CLOCK_ABSENT, CLOCK_RETURN and CLOCK_LOSS_EXPIRY (R117, Table 7-1). The cut cell, if any, is discarded as CELL_DISCARDED
discards it. That the expiry comes at a count of 20 is log 10's; that headset time runs on with that count, by the oscillator's own
microseconds, is logs 2 and 11's. -/
def Obligations.RecoveredClock : Prop :=
  (∀ s : State, s.served → s.link.clockPresent = true → ∃ t, exec (.clockAbsent []) s = .next t ∧
    t.link.clockPresent = false ∧ t.link.clockLoss = some 0 ∧ ChangesOnly [.lane] s t) ∧
  (∀ (s : State) (cut : List Byte), s.served → cut ≠ [] → s.receiving = true → ∃ t u,
    exec (.clockAbsent cut) s = .next t ∧ exec (.cellDiscarded cut) s = .next u ∧
    t.link.clockPresent = false ∧ t.link.clockLoss = some 0 ∧ ChangesOnly [.lane] u t) ∧
  (∀ s : State, s.served → s.link.clockPresent = false → ∃ t, exec .clockReturn s = .next t ∧
    t.link.clockPresent = true ∧ t.link.clockLoss = none ∧
    (s.link.state = .down → t.link.reads .training 0 s.link.badRun s.link.hold s.link.counters ∧ ChangesOnly [.lane, .link] s t) ∧
    (s.link.state ≠ .down → ChangesOnly [.lane] s t)) ∧
  ∀ (s : State) (n : Nat), s.served → s.link.clockLoss = some n → ∃ t, exec .clockLossExpiry s = .next t ∧
    t.clock = (s.elapse (20 - n)).clock ∧ t.link.clockLoss = none ∧ t.link.clockPresent = s.link.clockPresent ∧
    (s.link.state = .down → ChangesOnly [.clock, .lane] s t) ∧
    (s.link.state = .training → t.link.reads .down 0 s.link.badRun s.link.hold s.link.counters ∧
      ChangesOnly [.clock, .lane, .link] s t) ∧
    (s.link.state = .lost → t.link.reads .lost 0 s.link.badRun s.link.hold s.link.counters ∧
      ChangesOnly [.clock, .lane, .link] s t) ∧
    (s.link.state = .up → EntersLost (s.elapse (20 - n)) t s.link.counters ∧ EventsRaised s.abandonMarks s t ∧
      ChangesOnly ([.clock, .lane] ++ lostParts) s t)

/-- CRYSTAL_ABSENT, CRYSTAL_RETURN and CRYSTAL_LOSS_EXPIRY (R128), and that FALLBACK lasts until power-on reset (R129). That the crystal
input is noted under FALLBACK, where no watch starts, is log 22's; that the expiry comes at a count of 50 is log 10's, and that the count
and headset time go by one microsecond is log 11's. -/
def Obligations.CrystalWatch : Prop :=
  (∀ s : State, s.served → s.clock.crystalPresent = true → ∃ t, exec .crystalAbsent s = .next t ∧
    t.clock = { s.clock with crystalPresent := false, watch := if s.clock.source = .crystal then some 0 else none } ∧
    ChangesOnly [.clock] s t) ∧
  (∀ s : State, s.served → ∃ t, exec .crystalReturn s = .next t ∧ t.clock = { s.clock with crystalPresent := true, watch := none } ∧
    ChangesOnly [.clock] s t) ∧
  (∀ (s : State) (n : Nat), s.served → s.clock.watch = some n → ∃ t, exec .crystalLossExpiry s = .next t ∧
    t.clock = { (s.elapse (50 - n)).clock with source := .fallback, watch := none } ∧ t.cause = { s.cause with fallback := true } ∧
    t.link.clockPresent = s.link.clockPresent ∧ t.link.clockLoss = (s.elapse (50 - n)).link.clockLoss ∧
    DarkAndSilent s t ∧ EventsRaised EventKind.clockFallback.mark s t ∧
    ChangesOnly [.clock, .lane, .cause, .leftPanel, .rightPanel, .queueA, .queueB, .raised, .notice] s t) ∧
  ∀ (c : Instr) (s : State), s.clock.source = .fallback → c ≠ .powerOnReset → ∀ t : State, exec c s = .next t →
    t.clock.source = .fallback ∧ (s.cause.fallback = true → t.cause.fallback = true)

/-- FILL and CELL_DISCARDED. FILL's good header counts in the runs, and it does nothing else (R118 to R120, R123), but that a header that
makes the link UP opens a cell boundary at once (R125; log 30 for a cell still on the wire): `m` is the part before that boundary. Where no
cell is framed nothing happens. A discarded cell raises the counter of the first check that fails by one and raises CELL_ERRORS; its header
counts in the runs by its own check alone, and the fourth bad header in a row in UP makes the link enter LOST (R119, R120, R122). -/
def Obligations.ReceiverCountsHeaders : Prop :=
  (∀ (i : Fin 32) (s : State), s.served → s.receiving = true → ∃ t m, exec (.fill i) s = .next t ∧ AfterGoodHeader s m ∧
    EventsRaised s.recoverMarks s m ∧ ChangesOnly [.link, .counters, .raised, .notice] s m ∧
    (s.opensLane = true → exec .cellBoundary m = .next t) ∧ (s.opensLane = false → t = m)) ∧
  (∀ (i : Fin 32) (s : State), s.served → s.receiving = false → exec (.fill i) s = .next s) ∧
  (∀ (framed : List Byte) (s : State) (d : Discard), s.served → s.receiving = true → s.discardOf framed = some d → d ≠ .badHeader →
    ∃ t u, exec (.cellDiscarded framed) s = .next t ∧ exec (.fill 0) s = .next u ∧
      t.link = { u.link with counters := (match d with
        | .badHeader => u.link.counters
        | .unknownKind => { u.link.counters with unknownKind := u.link.counters.unknownKind + 1 }
        | .runt => { u.link.counters with runt := u.link.counters.runt + 1 }
        | .badPayload => { u.link.counters with badPayload := u.link.counters.badPayload + 1 }) } ∧
      EventsRaised EventKind.cellErrors.mark u t ∧ ChangesOnly [.counters, .raised, .notice] u t) ∧
  (∀ (framed : List Byte) (s : State), s.served → s.receiving = true → s.discardOf framed = some .badHeader →
    ∃ t, exec (.cellDiscarded framed) s = .next t ∧
      (s.link.state = .training ∨ s.link.state = .lost →
        t.link.reads s.link.state 0 s.link.badRun s.link.hold { s.link.counters with badHeader := s.link.counters.badHeader + 1 } ∧
        EventsRaised EventKind.cellErrors.mark s t ∧ ChangesOnly [.link, .counters, .raised, .notice] s t) ∧
      (s.link.state = .up → s.link.badRun < 3 →
        t.link.reads .up s.link.goodRun (s.link.badRun + 1) s.link.hold
          { s.link.counters with badHeader := s.link.counters.badHeader + 1 } ∧
        EventsRaised EventKind.cellErrors.mark s t ∧ ChangesOnly [.link, .counters, .raised, .notice] s t) ∧
      (s.link.state = .up → 3 ≤ s.link.badRun →
        EntersLost s t { s.link.counters with badHeader := s.link.counters.badHeader + 1 } ∧
        EventsRaised (s.abandonMarks ||| EventKind.cellErrors.mark) s t ∧ ChangesOnly lostParts s t)) ∧
  ∀ (framed : List Byte) (s : State), framed.length < 8 → s.discardOf framed = some .badHeader

/-! ### Downstream cells (R45 to R51, R83, R123, R135 to R138, R142): `u` is the part after the cell's good header, a FILL's too -/

/-- Every cell handed to the Stream Filter is counted once on its stream, as accepted or as discarded, and once as handed on, and its good
header moves the link as a FILL's does; a cell its entry does not admit is discarded there and reaches no block (R118 to R120, R123, R135,
R137, Table 8-2). -/
def Obligations.CellsCountedOnce : Prop :=
  ∀ (c : Instr) (i : Fin 32) (s : State), s.served → s.receiving = true → s.handedStream c = some i →
    ∃ t u, exec c s = .next t ∧ exec (.fill 0) s = .next u ∧
      t.streams[i].accepted + t.streams[i].discarded = s.streams[i].accepted + s.streams[i].discarded + 1 ∧
      (CountedOn i true s t ∨ CountedOn i false s t) ∧ HandedOn u t ∧
      (admitsCell c s.streams[i] = false → CountedOn i false s t ∧ ChangesOnly handOnParts u t)

/-- PIC_OPEN (R45, R46): the FILLING slot, its frame abandoned, or else the lowest-numbered free slot starts filling the frame; with
neither the frame is turned away. Writes outstanding are kept. -/
def Obligations.PicOpenTakesSlot : Prop :=
  ∀ (i : Fin 32) (f : BitVec 16) (flags : Byte) (time : Time) (s : State), s.served → s.receiving = true →
    admitsKind .picture s.streams[i] = true →
    ∃ t u, exec (.picOpen i f flags time) s = .next t ∧ exec (.fill 0) s = .next u ∧ HandedOn u t ∧
      ChangesOnly (handOnParts ++ [.slots, .raised, .notice]) u t ∧
      (∀ k : Fin 3, s.slotIn .filling = some k →
        t.frames.slots = s.frames.slots.set k.val ⟨.filling, some f, some time, flags.getLsbD 0, [], [], 0⟩ ∧
        CountedOn i true s t ∧ EventsRaised EventKind.frameAbandoned.mark u t) ∧
      (s.slotIn .filling = none →
        (∀ k : Fin 3, s.slotFree k = true → (∀ j : Fin 3, j < k → s.slotFree j = false) →
          t.frames.slots = s.frames.slots.set k.val ⟨.filling, some f, some time, flags.getLsbD 0, [], [], 0⟩ ∧
          CountedOn i true s t ∧ EventsRaised 0 u t) ∧
        ((∀ k : Fin 3, s.slotFree k = false) →
          t.frames.slots = s.frames.slots ∧ CountedOn i false s t ∧
          EventsRaised EventKind.frameTurnedAway.mark u t))

/-- PIC_BAND (R47, R48): a band of the FILLING slot's frame issues one band write into its place (R44); any other band is stray and is
dropped, whatever its length; one whose length is not its band's is a runt (R122). A payload fits the length field (log 25). The place
within the DRAM is log 12's. -/
def Obligations.PicBandIssuesWrite : Prop :=
  ∀ (i : Fin 32) (f : BitVec 16) (eye band : Byte) (rows : List Byte) (s : State), s.served → s.receiving = true →
    (bandRowsFit rows = true → s.bandLengthOk eye band rows = true → admitsKind .picture s.streams[i] = true →
      ∃ t u, exec (.picBand i f eye band rows) s = .next t ∧ exec (.fill 0) s = .next u ∧ HandedOn u t ∧
        ChangesOnly (handOnParts ++ [.writes]) u t ∧
        (∀ (k : Fin 3) (e : Eye), s.slotIn .filling = some k → s.frames.slots[k].frame = some f → eyeOf eye = some e →
          band.toNat < (s.panel e).bandCount →
          t.frames.writes = s.frames.writes ++ [⟨k, e, band.toNat, f,
            k.val * 39321600 + (if e = .left then 0 else 19660800) +
              16 * band.toNat * (((s.panel e).width + 2 * (s.panel e).marginH) * 3), rows⟩] ∧
          CountedOn i true s t) ∧
        (¬ (∃ (k : Fin 3) (e : Eye), s.slotIn .filling = some k ∧ s.frames.slots[k].frame = some f ∧ eyeOf eye = some e ∧
            band.toNat < (s.panel e).bandCount) →
          t.frames.writes = s.frames.writes ∧ CountedOn i false s t)) ∧
    (bandRowsFit rows = true → s.bandLengthOk eye band rows = false →
      ∃ t u, exec (.picBand i f eye band rows) s = .next t ∧ exec (.fill 0) s = .next u ∧
        t.link = { u.link with counters := { u.link.counters with runt := u.link.counters.runt + 1 } } ∧
        EventsRaised EventKind.cellErrors.mark u t ∧ ChangesOnly [.counters, .raised, .notice] u t)

/-- PIC_CLOSE (R50 to R52): the FILLING slot of its frame becomes CLOSING, a slot already CLOSING is superseded, and with no writes
outstanding the closed slot completes at once; any other close is stray. -/
def Obligations.PicCloseCloses : Prop :=
  ∀ (i : Fin 32) (f : BitVec 16) (s : State), s.served → s.receiving = true → admitsKind .picture s.streams[i] = true →
    ∃ t u, exec (.picClose i f) s = .next t ∧ exec (.fill 0) s = .next u ∧ HandedOn u t ∧
      ChangesOnly (handOnParts ++ [.slots, .superseded, .raised, .notice]) u t ∧
      (∀ k : Fin 3, s.slotIn .filling = some k → s.frames.slots[k].frame = some f →
        CountedOn i true s t ∧
        (s.outstanding k ≠ 0 →
          t.frames.slots = (clearSlot (s.slotIn .closing) s.frames.slots).set k.val { s.frames.slots[k] with phase := .closing } ∧
          t.frames.superseded = s.frames.superseded + oneIf (s.slotIn .closing) ∧ EventsRaised 0 u t) ∧
        (s.outstanding k = 0 →
          Completes k s.frames.slots[k] (clearSlot (s.slotIn .closing) s.frames.slots)
            (s.frames.superseded + oneIf (s.slotIn .closing)) u t 0)) ∧
      ((∀ k : Fin 3, s.slotIn .filling = some k → s.frames.slots[k].frame ≠ some f) →
        CountedOn i false s t ∧ t.frames.slots = s.frames.slots ∧ t.frames.superseded = s.frames.superseded ∧
        EventsRaised 0 u t)

/-- BAND_WRITE_COMPLETE (R48, R49, R52): the oldest write of the slot lands in its place and nowhere else; its band joins the set of a
FILLING or CLOSING slot of its frame; a CLOSING slot with no more writes completes. -/
def Obligations.BandWriteCompletes : Prop :=
  ∀ (k : Fin 3) (s : State) (before after : List BandWrite) (w : BandWrite), s.served →
    s.frames.writes = before ++ w :: after → w.slot = k → (∀ x ∈ before, x.slot ≠ k) →
    ∃ t, exec (.bandWriteComplete k) s = .next t ∧ ChangesOnly [.slots, .writes, .dram, .superseded, .raised, .notice] s t ∧
      t.frames.writes = before ++ after ∧
      (∀ a : Nat, Memory.readByte t.frames.dram a =
        if w.place ≤ a ∧ a < w.place + w.rows.length then w.rows[a - w.place]? else Memory.readByte s.frames.dram a) ∧
      ∀ f : FrameSlot, f = (if (s.frames.slots[k].phase = .filling ∨ s.frames.slots[k].phase = .closing) ∧
            s.frames.slots[k].frame = some w.frame then s.frames.slots[k].joinBand w.eye w.band else s.frames.slots[k]) →
        (¬ (f.phase = .closing ∧ ∀ x ∈ after, x.slot ≠ k) →
          t.frames.slots = s.frames.slots.set k.val f ∧ t.frames.superseded = s.frames.superseded ∧ EventsRaised 0 s t) ∧
        (f.phase = .closing ∧ (∀ x ∈ after, x.slot ≠ k) →
          Completes k f s.frames.slots s.frames.superseded s t 0)

/-- SOUND (R82, R83): while sound is barred the cell is dropped whole; otherwise its pairs join the named queue while it has room, the
queue plays when its fill reaches the start threshold, and pairs that do not fit raise PLAYOUT_OVERFLOW once. -/
def Obligations.SoundFillsQueue : Prop :=
  ∀ (i : Fin 32) (pairs : List (BitVec 24 × BitVec 24)) (s : State), s.served → s.receiving = true → soundPairsFit pairs = true →
    admitsKind .sound s.streams[i] = true →
    ∃ t u, exec (.sound i pairs) s = .next t ∧ exec (.fill 0) s = .next u ∧ HandedOn u t ∧
      ChangesOnly (handOnParts ++ [.queueA, .queueB, .raised, .notice]) u t ∧
      (u.soundBarred = true →
        CountedOn i false s t ∧ (∀ k : Sink, t.playout k = s.playout k) ∧ EventsRaised 0 u t) ∧
      (u.soundBarred = false → PlayoutLaw (s.sound.audio.start s.streams[i].sink) (s.playout s.streams[i].sink) →
        (s.playout s.streams[i].sink).pairs.length ≤ 1024 →
        (∀ k : Sink, k ≠ s.streams[i].sink → t.playout k = s.playout k) ∧
        (t.playout s.streams[i].sink).pairs = (s.playout s.streams[i].sink).pairs ++
          (pairs.take (1024 - (s.playout s.streams[i].sink).pairs.length)).map (fun p => ⟨p.1.toInt, p.2.toInt⟩) ∧
        (t.playout s.streams[i].sink).phase =
          (if (s.playout s.streams[i].sink).phase = .playing ∨
            s.sound.audio.start s.streams[i].sink ≤ (t.playout s.streams[i].sink).pairs.length then .playing else .priming) ∧
        (t.playout s.streams[i].sink).fade =
          (if (t.playout s.streams[i].sink).phase = .playing then 0 else (s.playout s.streams[i].sink).fade) ∧
        (t.playout s.streams[i].sink).last = (s.playout s.streams[i].sink).last ∧
        (t.playout s.streams[i].sink).hold = (s.playout s.streams[i].sink).hold ∧
        CountedOn i (decide ((s.playout s.streams[i].sink).pairs.length + pairs.length ≤ 1024)) s t ∧
        EventsRaised (EventKind.playoutOverflow.markIf
          (decide (1024 < (s.playout s.streams[i].sink).pairs.length + pairs.length))) u t)

/-- ASK (R142): the request joins the queue's tail while the queue holds fewer than 8; else it is dropped and REQUEST_OVERRUN is raised. -/
def Obligations.AskJoinsQueue : Prop :=
  ∀ (i : Fin 32) (tag op : Byte) (operands : List Byte) (s : State), s.served → s.receiving = true → askOperandsFit operands = true →
    admitsKind .ask s.streams[i] = true →
    ∃ t u, exec (.ask i tag op operands) s = .next t ∧ exec (.fill 0) s = .next u ∧ HandedOn u t ∧
      ChangesOnly (handOnParts ++ [.requests, .raised, .notice]) u t ∧
      (s.mgmt.requests.length < 8 → t.mgmt.requests = s.mgmt.requests ++ [⟨i, tag, op, operands⟩] ∧ CountedOn i true s t ∧
        EventsRaised 0 u t) ∧
      (8 ≤ s.mgmt.requests.length → t.mgmt.requests = s.mgmt.requests ∧ CountedOn i false s t ∧
        EventsRaised EventKind.requestOverrun.mark u t)

/-! ### Sound ticks and voice (R85 to R95) -/

/-- OUTPUT_TICK (R85, R86, R90 to R92): each queue gives its contribution, the mixer forms the output pair under the larger of the master
code and the floor in force, silence while sound is barred; every 480th tick owes a slip check, and the next tick comes 20 5/6 µs later.
That time runs on to the tick is log 2's, the start of the schedule log 9's. -/
def Obligations.OutputTickMixes : Prop :=
  ∀ s : State, s.served → s.timeRuns = true → ∀ u : State, u = s.runTo s.sound.tick.due →
    ∃ t, exec .outputTick s = .next t ∧
      ChangesOnly [.clock, .lane, .queueA, .queueB, .ticks, .output, .raised, .notice] s t ∧
      t.clock = u.clock ∧ t.link = u.link ∧
      t.sound.tickCount = s.sound.tickCount + 1 ∧
      t.sound.slipDue = (s.sound.slipDue || decide ((s.sound.tickCount + 1) % 480 = 0)) ∧
      NextOf48 s.sound.tick t.sound.tick ∧
      (∃ ca cb : SoundPair,
        GivesAtTick s.sound.queueA t.sound.queueA ca ∧ GivesAtTick s.sound.queueB t.sound.queueB cb ∧
        t.sound.output = if s.soundBarred then ⟨0, 0⟩ else
          ⟨mixedBy ca.left cb.left s.sound.audio.gainA s.sound.audio.gainB (max s.sound.audio.masterGain s.power.floor),
            mixedBy ca.right cb.right s.sound.audio.gainA s.sound.audio.gainB (max s.sound.audio.masterGain s.power.floor)⟩) ∧
      EventsRaised (EventKind.playoutUnderrun.markIf
        (decide ((s.sound.queueA.phase = .playing ∧ s.sound.queueA.pairs = []) ∨
          (s.sound.queueB.phase = .playing ∧ s.sound.queueB.pairs = [])))) s t

/-- SLIP_CHECK (R88), when a tick with a number that is a multiple of 480 has come and its check has not. -/
def Obligations.SlipCheckTrims : Prop :=
  ∀ s : State, s.served → s.sound.slipDue = true →
    ∃ t, exec .slipCheck s = .next t ∧ ChangesOnly [.queueA, .queueB, .ticks] s t ∧
      t.sound.slipDue = false ∧ t.sound.tickCount = s.sound.tickCount ∧ t.sound.tick = s.sound.tick ∧
      ∀ k : Sink,
        ((s.playout k).phase = .playing → s.sound.audio.slipHigh < (s.playout k).pairs.length →
          t.playout k = { s.playout k with pairs := (s.playout k).pairs.drop 1 }) ∧
        ((s.playout k).phase = .playing → (s.playout k).pairs.length ≤ s.sound.audio.slipHigh → 0 < (s.playout k).pairs.length →
          (s.playout k).pairs.length < s.sound.audio.slipLow → t.playout k = { s.playout k with hold := true }) ∧
        ((s.playout k).phase ≠ .playing ∨ (s.playout k).pairs.length = 0 ∨
          (s.sound.audio.slipLow ≤ (s.playout k).pairs.length ∧ (s.playout k).pairs.length ≤ s.sound.audio.slipHigh) →
          t.playout k = s.playout k)

/-- MICROPHONE_SAMPLE (R94 to R96): the sample through the capture gain, stamped with its tick's time, joins the Capture Queue while capture
is active; a full queue counts it as a gap and raises CAPTURE_OVERFLOW once a filling. The stamp, the whole microsecond below the tick, is
log 9's; that time runs on to the tick is log 2's. -/
def Obligations.MicrophoneSampleCaptured : Prop :=
  ∀ (raw : BitVec 16) (s : State), s.served → s.timeRuns = true →
    ∃ t, exec (.microphoneSample raw) s = .next t ∧
      ChangesOnly [.clock, .lane, .microphone, .capture, .raised, .notice] s t ∧
      t.clock = (s.runTo s.sound.mic.due).clock ∧ t.link = (s.runTo s.sound.mic.due).link ∧ NextOf48 s.sound.mic t.sound.mic ∧
      (¬ (s.sound.audio.captureEnable = true ∧ s.stance.voice = true) →
        ChangesOnly [.clock, .lane, .microphone] s t) ∧
      (s.sound.audio.captureEnable = true → s.stance.voice = true →
        (s.sound.capture.length < 1024 →
          t.sound.capture = s.sound.capture ++ [⟨max (-32768) (min 32767
            (roundDiv (raw.toInt * gainCoefficient s.sound.audio.captureGain) 32768)), s.sound.mic.due⟩] ∧
          t.sound.captureGap = s.sound.captureGap ∧ t.sound.captureFilling = s.sound.captureFilling ∧ EventsRaised 0 s t) ∧
        (1024 ≤ s.sound.capture.length →
          t.sound.capture = s.sound.capture ∧ t.sound.captureGap = min 65535 (s.sound.captureGap + 1) ∧
          t.sound.captureFilling = true ∧
          EventsRaised (EventKind.captureOverflow.markIf (!s.sound.captureFilling)) s t))

/-! ### Management: the queues, access and the checks (R139, R142 to R149, R155) -/

/-- A request that is not carried out changes nothing but the two queues (R144, R145); an undefined operation or table, or operands that end
too soon, are refused UNKNOWN by every operation (R146). -/
def Obligations.RefusedChangesNothing : Prop :=
  (∀ (r : Request) (rest : List Request) (s : State), s.oldest r rest →
    ∃ t, exec r.service s = .next t ∧ t.mgmt.requests = rest ∧
      ∀ a : Answer, t.mgmt.answers = s.mgmt.answers ++ [a] → a.status ≠ .done →
        ChangesOnly [.requests, .answers] s t ∧ a.stream = r.stream ∧ a.tag = r.tag ∧ a.value = [] ∧
        (a.status = .busy → a.reason = none)) ∧
  ∀ (r : Request) (rest : List Request) (s : State), s.atService r rest → r.undefinedOrShort →
    ∃ t, exec r.service s = .next t ∧ Answered rest (r.refusal .unknown none) s t ∧ ChangesOnly [.requests, .answers] s t

/-- The access check (R139, Table 8-4) comes before every other: a request of a stream that does not admit ASK, or that a LIMITED stream may
not make, is refused ACCESS and changes nothing; no other request is refused ACCESS. That an empty mask on PANELS or AUDIO is within the
LIMITED row, and that a LIMITED WRITE whose operands end before its table or its mask is not, is log 15's. -/
def Obligations.AccessCheckedFirst : Prop :=
  ∀ (r : Request) (rest : List Request) (s : State), s.oldest r rest →
    ∃ t, exec r.service s = .next t ∧
      ((¬ (s.streams[r.stream].enabled = true ∧ s.streams[r.stream].accepts = .ask) ∨
          (s.streams[r.stream].access = .limited ∧ r.op ∉ [0x01#8, 0x02#8, 0x03#8, 0x10#8]) ∨
          (s.streams[r.stream].access = .limited ∧ r.op = 0x01#8 ∧ r.operands ≠ [] ∧ r.table = none) ∨
          (s.streams[r.stream].access = .limited ∧ r.op = 0x02#8 ∧ r.table ≠ some .panels ∧ r.table ≠ some .audio) ∨
          (s.streams[r.stream].access = .limited ∧ r.op = 0x02#8 ∧ r.operands.length < 6) ∨
          (s.streams[r.stream].access = .limited ∧ r.op = 0x02#8 ∧ r.table = some .panels ∧
            ∃ k ∈ List.range 32, k ≠ 8 ∧ (r.mask.any fun m => m.getLsbD k) = true) ∨
          (s.streams[r.stream].access = .limited ∧ r.op = 0x02#8 ∧ r.table = some .audio ∧
            ∃ k ∈ List.range 32, (k < 4 ∨ 7 < k) ∧ (r.mask.any fun m => m.getLsbD k) = true)) →
        Answered rest (r.refusal .access none) s t ∧ ChangesOnly [.requests, .answers] s t) ∧
      (s.streams[r.stream].enabled = true → s.streams[r.stream].accepts = .ask →
        (s.streams[r.stream].access = .full ∨ r.op = 0x03#8 ∨ r.op = 0x10#8 ∨ (r.op = 0x01#8 ∧ r.table.isSome) ∨
          (r.op = 0x02#8 ∧ r.table = some .panels ∧ ∃ m, r.mask = some m ∧ ∀ k ∈ List.range 32, m.getLsbD k = true → k = 8) ∨
          (r.op = 0x02#8 ∧ r.table = some .audio ∧ ∃ m, r.mask = some m ∧
            ∀ k ∈ List.range 32, m.getLsbD k = true → 4 ≤ k ∧ k ≤ 7)) →
        t.mgmt.answers ≠ s.mgmt.answers ++ [r.refusal .access none])

/-- READ and READ_SNAPSHOT (R146, R147): the entry as it stands at the service, every field; an index at or above the table's entry count is
RANGE, an undefined table or a missing operand UNKNOWN. A READ changes nothing; a READ of SNAPSHOT marks the record taken (R24) and starts
the pass of a HELD SLOW group (R25). Its own request has left the queue, and its answer is not yet placed (log 28); a HELD pass without
member slots completes at the READ's time (log 19). The images of every table are given field by field (Table 11-6, R172), a group's
effective period by R11, after a change of a member's source too (log 34). -/
def Obligations.ReadAnswersEntry : Prop :=
  (∀ (table index : Byte) (extra : List Byte), ∀ r : Request, r.op = 0x01#8 → r.operands = table :: index :: extra →
    ∀ (rest : List Request) (s : State), s.atService r rest →
      (∀ tb : Table, tableOf table = some tb → tb ≠ .snapshot → ∃ t, exec .read s = .next t ∧
        ChangesOnly [.requests, .answers] s t ∧
        (index.toNat < tb.entries → ∃ image, State.entryImage tb index.toNat { s with mgmt := { s.mgmt with requests := rest } } =
          some image ∧ image.length = tb.allSlots ∧ Answered rest (r.done image) s t) ∧
        (tb.entries ≤ index.toNat → Answered rest (r.refusal .range none) s t)) ∧
      (19 ≤ table.toNat → ∃ t, exec .read s = .next t ∧ Answered rest (r.refusal .unknown none) s t ∧
        ChangesOnly [.requests, .answers] s t) ∧
      (table = 11#8 → index ≠ 0#8 → ∃ t, exec .readSnapshot s = .next t ∧
        Answered rest (r.refusal .range none) s t ∧ ChangesOnly [.requests, .answers] s t) ∧
      (table = 11#8 → index = 0#8 → ∃ t, exec .readSnapshot s = .next t ∧
        Answered rest (r.done s.sense.snapshot.image) s t ∧
        (s.sense.snapshot.taken = true → ChangesOnly [.requests, .answers] s t) ∧
        (s.sense.snapshot.taken = false → s.sense.slow.phase ≠ .held →
          t.sense.snapshot = { s.sense.snapshot with taken := true } ∧ ChangesOnly [.requests, .answers, .snapshot] s t) ∧
        (s.sense.snapshot.taken = false → s.sense.slow.phase = .held → ∃ m n : State,
          m.sense.snapshot = { s.sense.snapshot with taken := true } ∧ ChangesOnly [.snapshot] s m ∧
          PassAdvances .slow ⟨none, s.members .slow, none⟩ [] (s.members .slow) m n ∧ ArbitersAct n t ∧
          ChangesOnly ([.requests, .answers] ++ arbiterParts) n t))) ∧
  (∀ r : Request, r.op = 0x01#8 → r.operands.length < 2 →
    ∀ (rest : List Request) (s : State), s.atService r rest →
      ∃ t, exec r.service s = .next t ∧ Answered rest (r.refusal .unknown none) s t ∧ ChangesOnly [.requests, .answers] s t) ∧
  ReadOnlyImages ∧ WritableImages ∧ Codings

/-- DESC_READ (R155): ALIGN, then RANGE, else the named bytes of the 384-byte image; it is permitted on a LIMITED stream and changes
no state. -/
def Obligations.DescReadAnswersBytes : Prop :=
  descriptor.length = 384 ∧
  ∀ (offset : BitVec 16) (len : Byte) (extra : List Byte),
    ∀ r : Request, r.op = 0x03#8 → r.operands = le 2 offset.toNat ++ len :: extra →
    ∀ (rest : List Request) (s : State), s.oldest r rest →
      s.streams[r.stream].enabled = true → s.streams[r.stream].accepts = .ask →
      ∃ t, exec .descRead s = .next t ∧ ChangesOnly [.requests, .answers] s t ∧
        (offset.toNat % 4 ≠ 0 ∨ len.toNat % 4 ≠ 0 → Answered rest (r.refusal .align none) s t) ∧
        (offset.toNat % 4 = 0 → len.toNat % 4 = 0 → (len.toNat < 4 ∨ 240 < len.toNat ∨ 384 < offset.toNat + len.toNat) →
          Answered rest (r.refusal .range none) s t) ∧
        (offset.toNat % 4 = 0 → len.toNat % 4 = 0 → 4 ≤ len.toNat → len.toNat ≤ 240 → offset.toNat + len.toNat ≤ 384 →
          ∃ value, Answered rest (r.done value) s t ∧
            value.flatMap (fun v => le 4 v.toNat) = (descriptor.drop offset.toNat).take len.toNat)

/-- The checks of a WRITE before its values (R145, R146, R148): a mask bit at or above the table's field count is UNKNOWN, a read-only field
or entry READ_ONLY with the lowest such masked field, an index at or above the entry count RANGE; a read-only table is refused READ_ONLY as
a whole, and operands that end before the image UNKNOWN. A masked structural field outside its range or coding is RANGE with the lowest such
field (that a yes or no field takes 0 and 1 alone is log 24's, that a refusal of a read-only entry names a field log 16's). Nothing changes.
-/
def Obligations.WriteRefusals : Prop :=
  (∀ (tb : Table) (index : Byte) (mask : BitVec 32) (image : List Slot) (extra : List Byte),
    tb.writableSlots ≠ 0 → image.length = tb.writableSlots →
    ∀ r : Request, r.op = 0x02#8 → r.operands = writeOperands (allTables.idxOf tb) index.toNat mask image extra →
    ∀ (rest : List Request) (s : State), s.atService r rest →
      ∃ t, exec r.service s = .next t ∧
        ((∃ k ∈ List.range 32, mask.getLsbD k = true ∧ tb.allSlots ≤ k) →
          Answered rest (r.refusal .unknown none) s t ∧ ChangesOnly [.requests, .answers] s t) ∧
        ((∀ k ∈ List.range 32, mask.getLsbD k = true → k < tb.allSlots) →
          (∀ k ∈ List.range 32, mask.getLsbD k = true → ReadOnlyField tb index.toNat k →
            (∀ j ∈ List.range k, mask.getLsbD j = true → ¬ ReadOnlyField tb index.toNat j) →
            Answered rest (r.refusal .readOnly (some k)) s t ∧ ChangesOnly [.requests, .answers] s t) ∧
          ((∀ k ∈ List.range 32, mask.getLsbD k = true → ¬ ReadOnlyField tb index.toNat k) → tb.entries ≤ index.toNat →
            Answered rest (r.refusal .range none) s t ∧ ChangesOnly [.requests, .answers] s t) ∧
          ((∀ k ∈ List.range 32, mask.getLsbD k = true → ¬ ReadOnlyField tb index.toNat k) → index.toNat < tb.entries →
            ∀ k ∈ List.range 32, mask.getLsbD k = true → outOfRange tb index.toNat k (image.getD k 0) = true →
            (∀ j ∈ List.range k, mask.getLsbD j = true → outOfRange tb index.toNat j (image.getD j 0) = false) →
            Answered rest (r.refusal .range (some k)) s t ∧ ChangesOnly [.requests, .answers] s t))) ∧
  (∀ (tb : Table) (index : Byte) (mask : BitVec 32) (extra : List Byte), tb.writableSlots = 0 →
    ∀ r : Request, r.op = 0x02#8 → r.operands = writeOperands (allTables.idxOf tb) index.toNat mask [] extra →
    ∀ (rest : List Request) (s : State), s.atService r rest →
      ∃ t, exec .write s = .next t ∧ ChangesOnly [.requests, .answers] s t ∧
        ((∀ k ∈ List.range 32, mask.getLsbD k = true → k < s.fieldCount tb) → Answered rest (r.refusal .readOnly none) s t) ∧
        ((∃ k ∈ List.range 32, mask.getLsbD k = true ∧ s.fieldCount tb ≤ k) → Answered rest (r.refusal .unknown none) s t)) ∧
  ∀ (tb : Table) (r : Request), r.op = 0x02#8 → r.table = some tb → r.operands.length < 6 + 4 * tb.writableSlots →
    ∀ (rest : List Request) (s : State), s.atService r rest →
      ∃ t, exec r.service s = .next t ∧ Answered rest (r.refusal .unknown none) s t ∧ ChangesOnly [.requests, .answers] s t

/-! ### Management: the writable tables (R6, R8, R9, R63, R81, R101 to R103, R134, R148, R149) -/

/-- WRITE to STREAMS (R134, R140, R149): the masked fields take their values unless the table would break R134's constraints; a stream
that stops admitting picture cells has the FILLING slot abandoned (R59). -/
def Obligations.WriteStreams : Prop :=
  ∀ (i : Fin 32) (mask : BitVec 32) (w : StreamEntry) (ignored : List Slot) (extra : List Byte),
    i ≠ 0 ∨ mask = 0 → mask.toNat < 2 ^ 4 →
    ∀ r : Request, r.op = 0x02#8 → r.operands = writeOperands 0 i.val mask (maskedImage mask
      [slotBool w.enabled, slotNat w.accepts.code, slotNat w.sink.code, slotNat w.access.code] ignored) extra →
    ∀ (rest : List Request) (s : State), s.atService r rest →
      ∀ e : StreamEntry, e = ⟨pick mask 0 w.enabled s.streams[i].enabled, pick mask 1 w.accepts s.streams[i].accepts,
        pick mask 2 w.sink s.streams[i].sink, pick mask 3 w.access s.streams[i].access,
        s.streams[i].accepted, s.streams[i].discarded⟩ →
      ∃ t, exec .writeStreams s = .next t ∧
        (StreamsFit (s.streams.set i.val e) →
          t.streams = s.streams.set i.val e ∧ Answered rest (r.done e.image) s t ∧
          ChangesOnly [.requests, .answers, .streams, .slots, .raised, .notice] s t ∧
          (admitsKind .picture s.streams[i] = true → admitsKind .picture e = false →
            FillingEmptied s t ∧ EventsRaised s.abandonMarks s t) ∧
          (admitsKind .picture s.streams[i] = false ∨ admitsKind .picture e = true →
            t.frames.slots = s.frames.slots ∧ EventsRaised 0 s t)) ∧
        (¬ StreamsFit (s.streams.set i.val e) → ∃ field, Answered rest (r.refusal .conflict field) s t ∧
          ChangesOnly [.requests, .answers] s t)

/-- WRITE to CHANNELS (R6, R8, R149): the masked fields take their values, persist clamped, and the sample state changes as R8 says; a
broken constraint is CONFLICT, and then a slot whose present or new group is not STOPPED is BUSY. That a field written with its old value
counts as unchanged for R8, but range mode OFF by the mask, is log 31's; the values of a cleared record are log 13's. -/
def Obligations.WriteChannels : Prop :=
  ∀ (k : Fin 16) (mask : BitVec 32) (w : Channel) (persist : Slot) (ignored : List Slot) (extra : List Byte),
    mask.toNat < 2 ^ 10 → -32768 ≤ w.offset ∧ w.offset ≤ 32767 → w.gain ≤ 65535 → -32768 ≤ w.lower ∧ w.lower ≤ 32767 →
    -32768 ≤ w.upper ∧ w.upper ≤ 32767 →
    ∀ r : Request, r.op = 0x02#8 → r.operands = writeOperands 1 k.val mask (maskedImage mask
      [slotNat (sourceCode w.source), slotNat w.group.code, slotNat w.role.code, slotBool w.report, slotInt w.offset,
        slotNat w.gain, slotNat w.rangeMode.code, slotInt w.lower, slotInt w.upper, persist] ignored) extra →
    ∀ (rest : List Request) (s : State), s.atService r rest →
      ∀ c : Channel, c = ⟨pick mask 0 w.source s.sense.channels[k].source, pick mask 1 w.group s.sense.channels[k].group,
        pick mask 2 w.role s.sense.channels[k].role, pick mask 3 w.report s.sense.channels[k].report,
        pick mask 4 w.offset s.sense.channels[k].offset, pick mask 5 w.gain s.sense.channels[k].gain,
        pick mask 6 w.rangeMode s.sense.channels[k].rangeMode, pick mask 7 w.lower s.sense.channels[k].lower,
        pick mask 8 w.upper s.sense.channels[k].upper, pick mask 9 (clamped 1 255 persist) s.sense.channels[k].persist⟩ →
      ∃ t, exec .writeChannels s = .next t ∧
        (ChannelsFit (s.sense.channels.set k.val c) → s.stoppedGroup s.sense.channels[k].group → s.stoppedGroup c.group →
          t.sense.channels = s.sense.channels.set k.val c ∧ Answered rest (r.done c.image) s t ∧
          ChangesOnly [.requests, .answers, .channels, .samples] s t ∧
          (∀ j : Fin 16, j ≠ k → t.sense.samples[j] = s.sense.samples[j]) ∧
          t.sense.samples[k].sticky = s.sense.samples[k].sticky ∧ t.sense.samples[k].side = s.sense.samples[k].side ∧
          (c.source ≠ s.sense.channels[k].source ∨ c.group ≠ s.sense.channels[k].group →
            t.sense.samples[k].valid = false ∧ t.sense.samples[k].extremesValid = false) ∧
          (c.source = s.sense.channels[k].source → c.group = s.sense.channels[k].group →
            t.sense.samples[k].value = s.sense.samples[k].value ∧ t.sense.samples[k].time = s.sense.samples[k].time ∧
            t.sense.samples[k].valid = s.sense.samples[k].valid ∧ t.sense.samples[k].min = s.sense.samples[k].min ∧
            t.sense.samples[k].max = s.sense.samples[k].max ∧
            t.sense.samples[k].extremesValid = s.sense.samples[k].extremesValid) ∧
          t.sense.samples[k].run = (if c.rangeMode ≠ s.sense.channels[k].rangeMode ∨ c.lower ≠ s.sense.channels[k].lower ∨
            c.upper ≠ s.sense.channels[k].upper ∨ c.persist ≠ s.sense.channels[k].persist then 0 else s.sense.samples[k].run) ∧
          t.sense.samples[k].alarm =
            (if mask.getLsbD 6 = true ∧ c.rangeMode = .off then false else s.sense.samples[k].alarm)) ∧
        (¬ ChannelsFit (s.sense.channels.set k.val c) → ∃ field, Answered rest (r.refusal .conflict field) s t ∧
          ChangesOnly [.requests, .answers] s t) ∧
        (ChannelsFit (s.sense.channels.set k.val c) →
          ¬ (s.stoppedGroup s.sense.channels[k].group ∧ s.stoppedGroup c.group) →
          ∃ field, Answered rest (r.turnedAway field) s t ∧ ChangesOnly [.requests, .answers] s t)

/-- WRITE to GROUPS (R9, R149): the masked fields take their values, the period clamped; hold yes on FAST is RANGE; a group that is not
STOPPED answers BUSY. -/
def Obligations.WriteGroups : Prop :=
  ∀ (g : ScanGroup) (mask : BitVec 32) (mode : ScanMode) (trigger : Trigger) (period : Slot) (hold : Bool)
    (ignored : List Slot) (extra : List Byte), mask.toNat < 2 ^ 4 →
    ∀ r : Request, r.op = 0x02#8 → r.operands = writeOperands 2 (if g = .fast then 0 else 1) mask (maskedImage mask
      [slotNat mode.code, slotNat trigger.code, period, slotBool hold] ignored) extra →
    ∀ (rest : List Request) (s : State), s.atService r rest →
      ∀ x : Group, x = { s.group g with
        mode := pick mask 0 mode (s.group g).mode
        trigger := pick mask 1 trigger (s.group g).trigger
        period := pick mask 2 (clamped 50 10000000 period) (s.group g).period
        hold := pick mask 3 hold (s.group g).hold } →
      ∃ t, exec .writeGroups s = .next t ∧
        (g = .fast → hold = true → mask.getLsbD 3 = true →
          Answered rest (r.refusal .range (some 3)) s t ∧ ChangesOnly [.requests, .answers] s t) ∧
        (¬ (g = .fast ∧ hold = true ∧ mask.getLsbD 3 = true) → (s.group g).phase ≠ .stopped →
          ∃ field, Answered rest (r.turnedAway field) s t ∧ ChangesOnly [.requests, .answers] s t) ∧
        (¬ (g = .fast ∧ hold = true ∧ mask.getLsbD 3 = true) → (s.group g).phase = .stopped →
          t.group g = x ∧ (∀ h : ScanGroup, h ≠ g → t.group h = s.group h) ∧
          Answered rest (r.done (t.groupImage g)) s t ∧ ChangesOnly [.requests, .answers, .fast, .slow] s t)

/-- WRITE to PANELS (R58, R63, R73, R149): the masked fields take their values, level fields clamped; a mask with a structural field is
BUSY unless both panels are OFF, and then empties all three slots, with FRAME_ABANDONED once if any held a frame. -/
def Obligations.WritePanels : Prop :=
  ∀ (e : Eye) (mask : BitVec 32) (width height marginH marginV : Nat) (kH kV limit setpoint : Slot) (shift : Bool)
    (ignored : List Slot) (extra : List Byte), mask.toNat < 2 ^ 9 →
    1024 ≤ width ∧ width ≤ 2304 ∧ width % 16 = 0 → 1024 ≤ height ∧ height ≤ 2304 ∧ height % 16 = 0 → marginH ≤ 128 →
    marginV ≤ 128 →
    ∀ r : Request, r.op = 0x02#8 → r.operands = writeOperands 3 (if e = .left then 0 else 1) mask (maskedImage mask
      [slotNat width, slotNat height, slotNat marginH, slotNat marginV, kH, kV, slotBool shift, limit, setpoint] ignored) extra →
    ∀ (rest : List Request) (s : State), s.atService r rest →
      ∀ p : Panel, p = { s.panel e with
        width := pick mask 0 width (s.panel e).width
        height := pick mask 1 height (s.panel e).height
        marginH := pick mask 2 marginH (s.panel e).marginH
        marginV := pick mask 3 marginV (s.panel e).marginV
        kH := pick mask 4 (clamped 0 32767 kH) (s.panel e).kH
        kV := pick mask 5 (clamped 0 32767 kV) (s.panel e).kV
        shiftEnable := pick mask 6 shift (s.panel e).shiftEnable
        repeatLimit := pick mask 7 (clamped 0 7 limit) (s.panel e).repeatLimit
        setpoint := pick mask 8 (clamped 0 1023 setpoint) (s.panel e).setpoint } →
      ∃ t, exec .writePanels s = .next t ∧
        (mask.toNat % 16 ≠ 0 → ¬ (s.scanout.left.power = .off ∧ s.scanout.right.power = .off) →
          ∃ field, Answered rest (r.turnedAway (some field)) s t ∧ field < 4 ∧ ChangesOnly [.requests, .answers] s t) ∧
        (mask.toNat % 16 = 0 ∨ (s.scanout.left.power = .off ∧ s.scanout.right.power = .off) →
          t.panel e = { p with shown := min p.shown (min p.setpoint s.power.cap) } ∧
          (∀ d : Eye, d ≠ e → t.panel d = (s.panel d).limit s.power.cap) ∧
          Answered rest (r.done (t.panel e).image) s t ∧
          ChangesOnly [.requests, .answers, .leftPanel, .rightPanel, .slots, .raised, .notice] s t ∧
          (mask.toNat % 16 = 0 → t.frames.slots = s.frames.slots ∧ EventsRaised 0 s t) ∧
          (mask.toNat % 16 ≠ 0 → (∀ i : Fin 3, t.frames.slots[i] = FrameSlot.emptied) ∧
            EventsRaised (EventKind.frameAbandoned.markIf (decide (∃ i : Fin 3, s.frames.slots[i].phase ≠ .empty))) s t))

/-- WRITE to SCANOUT (R62, R63, R65): a refresh code is BUSY unless both panels are OFF; the panels act on the demand at once
(Table 4-3). -/
def Obligations.WriteScanout : Prop :=
  ∀ (mask : BitVec 32) (enable : Bool) (refresh : RefreshCode) (ignored : List Slot) (extra : List Byte),
    mask.toNat < 2 ^ 2 →
    ∀ r : Request, r.op = 0x02#8 → r.operands = writeOperands 4 0 mask
      (maskedImage mask [slotBool enable, slotNat refresh.code] ignored) extra →
    ∀ (rest : List Request) (s : State), s.atService r rest →
      ∃ t, exec .writeScanout s = .next t ∧
        (mask.getLsbD 1 = true → ¬ (s.scanout.left.power = .off ∧ s.scanout.right.power = .off) →
          Answered rest (r.turnedAway (some 1)) s t ∧ ChangesOnly [.requests, .answers] s t) ∧
        (mask.getLsbD 1 = false ∨ (s.scanout.left.power = .off ∧ s.scanout.right.power = .off) →
          t.scanout.enable = pick mask 0 enable s.scanout.enable ∧ t.scanout.refresh = pick mask 1 refresh s.scanout.refresh ∧
          t.scanout.latchCount = s.scanout.latchCount ∧
          (∀ e : Eye, FollowsDemand (t.scanout.enable && s.stance.panels) s.clock.now (s.panel e) (t.panel e)) ∧
          t.scanout.latchDue = (if t.scanout.left.power = .on ∨ t.scanout.right.power = .on then s.scanout.latchDue else none) ∧
          Answered rest (r.done [slotBool t.scanout.enable, slotNat t.scanout.refresh.code, t.scanout.latchCount]) s t ∧
          ChangesOnly [.requests, .answers, .scanoutEnable, .refresh, .leftPanel, .rightPanel, .latchDue] s t)

/-- WRITE to AUDIO (R81, R87, R95, R96, R149): gain codes clamped; CONFLICT when the resulting thresholds and slips are out of order; a
PRIMING queue that has reached its threshold plays at once, and capture stops when its enable does. -/
def Obligations.WriteAudio : Prop :=
  ∀ (mask : BitVec 32) (startA startB slipLow slipHigh : Nat) (gainA gainB master capture : Slot) (enable : Bool)
    (ignored : List Slot) (extra : List Byte), mask.toNat < 2 ^ 9 →
    1 ≤ startA ∧ startA ≤ 1023 → 1 ≤ startB ∧ startB ≤ 1023 → slipLow ≤ 1022 → 2 ≤ slipHigh ∧ slipHigh ≤ 1024 →
    ∀ r : Request, r.op = 0x02#8 → r.operands = writeOperands 5 0 mask (maskedImage mask
      [slotNat startA, slotNat startB, slotNat slipLow, slotNat slipHigh, gainA, gainB, master, capture, slotBool enable]
      ignored) extra →
    ∀ (rest : List Request) (s : State), s.atService r rest →
      ∀ a : AudioRecord, a = ⟨pick mask 0 startA s.sound.audio.startA, pick mask 1 startB s.sound.audio.startB,
        pick mask 2 slipLow s.sound.audio.slipLow, pick mask 3 slipHigh s.sound.audio.slipHigh,
        pick mask 4 (clamped 0 192 gainA) s.sound.audio.gainA, pick mask 5 (clamped 0 192 gainB) s.sound.audio.gainB,
        pick mask 6 (clamped 0 192 master) s.sound.audio.masterGain,
        pick mask 7 (clamped 0 192 capture) s.sound.audio.captureGain, pick mask 8 enable s.sound.audio.captureEnable⟩ →
      ∃ t, exec .writeAudio s = .next t ∧
        (¬ (a.slipLow < a.startA ∧ a.startA < a.slipHigh ∧ a.slipLow < a.startB ∧ a.startB < a.slipHigh) →
          ∃ field, Answered rest (r.refusal .conflict field) s t ∧ ChangesOnly [.requests, .answers] s t) ∧
        (a.slipLow < a.startA ∧ a.startA < a.slipHigh ∧ a.slipLow < a.startB ∧ a.startB < a.slipHigh →
          t.sound.audio = a ∧ Answered rest (r.done a.image) s t ∧
          (∀ k : Sink, t.playout k = if (s.playout k).phase = .priming ∧ a.start k ≤ (s.playout k).pairs.length
            then { s.playout k with phase := .playing, fade := 0 } else s.playout k) ∧
          (s.captureActive = true → t.captureActive = false →
            CaptureStopped s t) ∧
          (s.captureActive = false ∨ t.captureActive = true →
            t.sound.capture = s.sound.capture ∧ t.sound.captureGap = s.sound.captureGap ∧
            t.sound.captureFilling = s.sound.captureFilling) ∧
          ChangesOnly [.requests, .answers, .audio, .queueA, .queueB, .capture] s t)

/-- WRITE to REPORT and to STANCE_LIMITS (R29, R30, R102): level fields clamped, a ramp time a multiple of 10 up to 1000, never busy; an age
limit that the head's age has already reached makes its expiry occur at once. That an expiry stays in force is log 14's, that a time which
reads as after now counts as past the limit log 32's. -/
def Obligations.WriteReportAndLimits : Prop :=
  (∀ (mask : BitVec 32) (threshold age : Slot) (ignored : List Slot) (extra : List Byte), mask.toNat < 2 ^ 2 →
    ∀ r : Request, r.op = 0x02#8 → r.operands = writeOperands 6 0 mask (maskedImage mask [threshold, age] ignored) extra →
    ∀ (rest : List Request) (s : State), s.atService r rest →
      ∃ t, exec .writeReport s = .next t ∧
        t.report.threshold = pick mask 0 (clamped 1 60 threshold) s.report.threshold ∧
        t.report.ageLimit = pick mask 1 (clamped 100 10000 age) s.report.ageLimit ∧
        t.report.queue = s.report.queue ∧ t.report.gap = s.report.gap ∧ t.report.filling = s.report.filling ∧
        t.report.expired = (s.report.expired || (mask.getLsbD 1 &&
          s.report.queue.head?.any fun e => decide (t.report.ageLimit ≤ distance e.time s.clock.now))) ∧
        Answered rest (r.done [slotNat t.report.threshold, slotNat t.report.ageLimit]) s t ∧
        ChangesOnly [.requests, .answers, .reportRecord, .sampleQueue] s t) ∧
  ∀ (mask : BitVec 32) (stale ramp : Slot) (ignored : List Slot) (extra : List Byte), mask.toNat < 2 ^ 2 →
    ∀ r : Request, r.op = 0x02#8 → r.operands = writeOperands 8 0 mask (maskedImage mask [stale, ramp] ignored) extra →
    ∀ (rest : List Request) (s : State), s.atService r rest →
      ∃ t, exec .writeStanceLimits s = .next t ∧
        (mask.getLsbD 1 = true → 1000 < ramp.toNat ∨ ramp.toNat % 10 ≠ 0 →
          Answered rest (r.refusal .range (some 1)) s t ∧ ChangesOnly [.requests, .answers] s t) ∧
        (mask.getLsbD 1 = false ∨ (ramp.toNat ≤ 1000 ∧ ramp.toNat % 10 = 0) →
          t.power.staleLimit = pick mask 0 (clamped 10 2000 stale) s.power.staleLimit ∧
          t.power.rampTime = pick mask 1 ramp.toNat s.power.rampTime ∧
          Answered rest (r.done [slotNat t.power.staleLimit, slotNat t.power.rampTime]) s t ∧
          ChangesOnly [.requests, .answers, .stanceLimits] s t)

/-- WRITE to STANCES (R100, R101): the record takes the masked values; the record of the stance in effect is pushed at once while SETTLED
and is BUSY while CHANGING; STANDBY's permissions are not written here. -/
def Obligations.WriteStances : Prop :=
  ∀ (i : Fin 4) (mask : BitVec 32) (cap floor fastFloor : Slot) (panels sound voice fast : Bool)
    (ignored : List Slot) (extra : List Byte), mask.toNat < 2 ^ 7 → i ≠ 3 ∨ mask.toNat < 2 ^ 3 →
    ∀ r : Request, r.op = 0x02#8 → r.operands = writeOperands 7 i.val mask (maskedImage mask
      [cap, floor, fastFloor, slotBool panels, slotBool sound, slotBool voice, slotBool fast] ignored) extra →
    ∀ (rest : List Request) (s : State), s.atService r rest →
      ∀ x : StanceRecord, x = ⟨pick mask 0 (clamped 0 1023 cap) s.power.stances[i].cap, pick mask 1 (clamped 0 192 floor) s.power.stances[i].floor,
        pick mask 2 (clamped 0 100000 fastFloor) s.power.stances[i].fastFloor, pick mask 3 panels s.power.stances[i].panels,
        pick mask 4 sound s.power.stances[i].sound, pick mask 5 voice s.power.stances[i].voice,
        pick mask 6 fast s.power.stances[i].fast⟩ →
      ∃ t, exec .writeStances s = .next t ∧
        (i.val = s.power.inEffect.rank → s.power.ramp.isSome →
          ∃ field, Answered rest (r.turnedAway field) s t ∧ ChangesOnly [.requests, .answers] s t) ∧
        (i.val ≠ s.power.inEffect.rank → t.power.stances = s.power.stances.set i.val x ∧ Answered rest (r.done x.image) s t ∧
          ChangesOnly [.requests, .answers, .stances] s t) ∧
        (i.val = s.power.inEffect.rank → s.power.ramp = none →
          t.power.stances = s.power.stances.set i.val x ∧ t.power.cap = x.cap ∧ t.power.floor = x.floor ∧
          PushTaken s t ∧ Answered rest (r.done x.image) s t ∧
          ChangesOnly ([.requests, .answers, .stances, .limits] ++ pushParts) s t)

/-- WRITE to RULES (R103, R105): the rule takes the masked values and the target is evaluated at once, with the marks as they stand. An
answer that this settles stands before the WRITE's own (log 33). -/
def Obligations.WriteRules : Prop :=
  ∀ (i : Fin 8) (mask : BitVec 32) (w : Rule) (ignored : List Slot) (extra : List Byte), mask.toNat < 2 ^ 3 →
    ∀ r : Request, r.op = 0x02#8 → r.operands = writeOperands 9 i.val mask (maskedImage mask
      [slotBool w.enabled, slotNat w.slot.val, slotNat w.ceiling.rank] ignored) extra →
    ∀ (rest : List Request) (s : State), s.atService r rest →
      ∀ x : Rule, x = ⟨pick mask 0 w.enabled s.power.rules[i].enabled, pick mask 1 w.slot s.power.rules[i].slot,
        pick mask 2 w.ceiling s.power.rules[i].ceiling⟩ →
      ∃ t, exec .writeRules s = .next t ∧ t.mgmt.requests = rest ∧
        Evaluated { s with power := { s.power with rules := s.power.rules.set i.val x } } t [r.done x.image] ∧
        ChangesOnly ([.requests, .rules] ++ stanceParts) s t

/-! ### Management: events, groups, slots, counters and the stance (R16, R17, R23, R110, R150 to R153, R160 to R165) -/

/-- EVENTS_CLEAR (R158, R160, R163): the named kinds leave the raised set, and named level kinds whose condition holds are raised again in
the same event. -/
def Obligations.EventsClear : Prop :=
  ∀ (x : EventSet) (extra : List Byte), ∀ r : Request, r.op = 0x10#8 → r.operands = le 4 x.toNat ++ extra →
    ∀ (rest : List Request) (s : State), s.atService r rest →
      ∃ t, exec .eventsClear s = .next t ∧ Answered rest (r.done t.events.slots) s t ∧ NoticeSettles s t ∧
        ChangesOnly [.requests, .answers, .raised, .notice] s t ∧
        ∀ k : EventKind, t.events.raised.getLsbD k.number =
          ((s.events.raised.getLsbD k.number && !x.getLsbD k.number) ||
            (x.getLsbD k.number &&
              ((k == .clockFallback && s.clock.source == .fallback) ||
                (k == .rangeAlarm && (List.finRange 16).any fun j => s.sense.samples[j].sticky) ||
                (k == .monitorStale && s.power.stale != 0))))

/-- EVENTS_ENABLE and EVENTS_DISABLE (R161): the named kinds join or leave the enabled set, the raised set stands, and the NOTICE slot
follows the new pending set (R163); a mark outside the 21 kinds is RANGE (R151). -/
def Obligations.EventsEnableDisable : Prop :=
  (∀ (x : EventSet) (extra : List Byte), ∀ r : Request, r.op = 0x11#8 → r.operands = le 4 x.toNat ++ extra →
    ∀ (rest : List Request) (s : State), s.atService r rest →
      ∃ t, exec .eventsEnable s = .next t ∧ t.events.enabled = s.events.enabled ||| x ∧ NoticeSettles s t ∧
        Answered rest (r.done t.events.slots) s t ∧ ChangesOnly [.requests, .answers, .enabled, .notice] s t) ∧
  (∀ (x : EventSet) (extra : List Byte), ∀ r : Request, r.op = 0x12#8 → r.operands = le 4 x.toNat ++ extra →
    ∀ (rest : List Request) (s : State), s.atService r rest →
      ∃ t, exec .eventsDisable s = .next t ∧ t.events.enabled = s.events.enabled &&& ~~~x ∧ NoticeSettles s t ∧
        Answered rest (r.done t.events.slots) s t ∧ ChangesOnly [.requests, .answers, .enabled, .notice] s t) ∧
  ∀ (op : Byte) (x : BitVec 32) (extra : List Byte), op ∈ [0x10#8, 0x11#8, 0x12#8, 0x13#8] → 2 ^ 21 ≤ x.toNat →
    ∀ r : Request, r.op = op → r.operands = le 4 x.toNat ++ extra →
    ∀ (rest : List Request) (s : State), s.atService r rest → s.events.lock = false ∨ op ≠ 0x13#8 →
      ∃ t, exec r.service s = .next t ∧ Answered rest (r.refusal .range none) s t ∧ ChangesOnly [.requests, .answers] s t

/-- GATE (R151, R162, R163): 0 closes and 1 opens the notice gate, any other operand is RANGE; opening it with a kind pending makes the
NOTICE ready, closing it withdraws a ready one, and a gate already in the state asked for changes nothing. -/
def Obligations.GateOpensAndCloses : Prop :=
  ∀ (b : Byte) (extra : List Byte), ∀ r : Request, r.op = 0x14#8 → r.operands = b :: extra →
    ∀ (rest : List Request) (s : State), s.atService r rest →
      ∃ t, exec .gate s = .next t ∧
        (b.toNat ≤ 1 → t.events.gateOpen = decide (b = 1#8) ∧ NoticeSettles s t ∧ Answered rest (r.done t.events.slots) s t ∧
          ChangesOnly [.requests, .answers, .gate, .notice] s t ∧
          (NoticeLaw s → s.events.gateOpen = decide (b = 1#8) → ChangesOnly [.requests, .answers] s t)) ∧
        (2 ≤ b.toNat → Answered rest (r.refusal .range none) s t ∧ ChangesOnly [.requests, .answers] s t)

/-- EVENTS_INJECT and LOCK_LIVE (R165): with the live lock clear the named kinds are raised and nothing else changes; with it set the
injection is refused LOCKED; LOCK_LIVE sets the lock, and it stays set until power-on reset. -/
def Obligations.InjectionAndLock : Prop :=
  (∀ (x : EventSet) (extra : List Byte), ∀ r : Request, r.op = 0x13#8 → r.operands = le 4 x.toNat ++ extra →
    ∀ (rest : List Request) (s : State), s.atService r rest →
      ∃ t, exec .eventsInject s = .next t ∧
        (s.events.lock = false → t.events.raised = s.events.raised ||| x ∧ NoticeSettles s t ∧
          Answered rest (r.done t.events.slots) s t ∧ ChangesOnly [.requests, .answers, .raised, .notice] s t) ∧
        (s.events.lock = true → Answered rest (r.refusal .locked none) s t ∧ ChangesOnly [.requests, .answers] s t)) ∧
  (∀ r : Request, r.op = 0x15#8 → ∀ (rest : List Request) (s : State), s.atService r rest →
    ∃ t, exec .lockLive s = .next t ∧ t.events.lock = true ∧ Answered rest (r.done t.events.slots) s t ∧
      ChangesOnly [.requests, .answers, .lock] s t) ∧
  ∀ (c : Instr) (s : State), c ≠ .powerOnReset → s.events.lock = true → ∀ t : State, exec c s = .next t → t.events.lock = true

/-- GROUP_START and GROUP_STOP (R12, R16, R17, R37, R150). A start arms a STOPPED group, gives an ARMED group with trigger ORDER its
trigger, which does all that a trigger does, and else changes nothing; on FAST it is CONFLICT while the stance forbids FAST. A stop discards
the pass, the schedule and what is in flight, and a freed resource goes to the other group if that waits for it. -/
def Obligations.GroupStartStop : Prop :=
  (∀ (g : ScanGroup) (extra : List Byte), ∀ r : Request, r.op = 0x20#8 → r.operands = (if g = .fast then 0#8 else 1#8) :: extra →
    ∀ (rest : List Request) (s : State), s.atService r rest →
      ∃ t, exec .groupStart s = .next t ∧
        (g = .fast → s.stance.fast = false →
          Answered rest (r.refusal .conflict none) s t ∧ ChangesOnly [.requests, .answers] s t) ∧
        (g = .slow ∨ s.stance.fast = true → (s.group g).phase = .stopped →
          t.group g = { s.group g with
            phase := .armed
            pass := none
            timer := if (s.group g).trigger = .timer then some (.first s.clock.now) else none } ∧
          (∀ h : ScanGroup, h ≠ g → t.group h = s.group h) ∧
          t.pose = (if g = .fast then { s.pose with prev := none, history := [] } else s.pose) ∧
          Answered rest (r.done [1]) s t ∧ ChangesOnly [.requests, .answers, .fast, .slow, .pose] s t) ∧
        (g = .slow ∨ s.stance.fast = true →
          (s.group g).phase = .passing ∨ (s.group g).phase = .held ∨
            ((s.group g).phase = .armed ∧ (s.group g).trigger ≠ .order) →
          Answered rest (r.done [slotNat (s.group g).phase.code]) s t ∧ ChangesOnly [.requests, .answers] s t) ∧
        (g = .slow ∨ s.stance.fast = true → (s.group g).phase = .armed → (s.group g).trigger = .order →
          Answered rest (r.done [slotNat (match (t.group g).phase with
            | .stopped => 0
            | .armed => 1
            | .passing => 2
            | .held => 3)]) s t ∧
          ∃ n : State, TriggerReaches g s n ∧ ArbitersAct n t ∧ ChangesOnly ([.requests, .answers] ++ arbiterParts) n t)) ∧
  (∀ (g : ScanGroup) (extra : List Byte), ∀ r : Request, r.op = 0x21#8 → r.operands = (if g = .fast then 0#8 else 1#8) :: extra →
    ∀ (rest : List Request) (s : State), s.atService r rest →
      ∃ t, exec .groupStop s = .next t ∧ Answered rest (r.done [0]) s t ∧
        ((s.group g).phase = .stopped → ChangesOnly [.requests, .answers] s t) ∧
        ((s.group g).phase ≠ .stopped →
          GroupStopped g s t ∧ ChangesOnly ([.requests, .answers] ++ arbiterParts) s t)) ∧
  ∀ (op b : Byte) (extra : List Byte), op = 0x20#8 ∨ op = 0x21#8 → 2 ≤ b.toNat →
    ∀ r : Request, r.op = op → r.operands = b :: extra →
    ∀ (rest : List Request) (s : State), s.atService r rest →
      ∃ t, exec r.service s = .next t ∧ Answered rest (r.refusal .range none) s t ∧ ChangesOnly [.requests, .answers] s t

/-- RANGE_CLEAR and EXTREMES_CLEAR (R23, R150): the sticky flag and side, or the extremes' mark, of the named slots alone. That the two
values beside a cleared mark stand is log 13's. -/
def Obligations.SlotClears : Prop :=
  (∀ (x : BitVec 16) (extra : List Byte), ∀ r : Request, r.op = 0x22#8 → r.operands = le 2 x.toNat ++ extra →
    ∀ (rest : List Request) (s : State), s.atService r rest →
      ∃ t, exec .rangeClear s = .next t ∧ Answered rest (r.done []) s t ∧ ChangesOnly [.requests, .answers, .samples] s t ∧
        ∀ k : Fin 16, t.sense.samples[k] =
          if x.getLsbD k.val then { s.sense.samples[k] with sticky := false, side := .none } else s.sense.samples[k]) ∧
  ∀ (x : BitVec 16) (extra : List Byte), ∀ r : Request, r.op = 0x23#8 → r.operands = le 2 x.toNat ++ extra →
    ∀ (rest : List Request) (s : State), s.atService r rest →
      ∃ t, exec .extremesClear s = .next t ∧ Answered rest (r.done []) s t ∧ ChangesOnly [.requests, .answers, .samples] s t ∧
        ∀ k : Fin 16, t.sense.samples[k] =
          if x.getLsbD k.val then { s.sense.samples[k] with extremesValid := false } else s.sense.samples[k]

/-- STANCE_ORDER (R105, R110, R153): BUSY while CHANGING; else the order stands and the target, the most restrictive of it and the active
rules' ceilings, is evaluated; settled at the order the answer is placed at once, and with a ramp started it is kept pending. -/
def Obligations.StanceOrder : Prop :=
  (∀ s : State, s.power.ordered.rank ≤ s.target.rank ∧
    (∀ k : Fin 8, s.power.active.getLsbD k.val = true → s.power.rules[k].ceiling.rank ≤ s.target.rank) ∧
    (s.target = s.power.ordered ∨ ∃ k : Fin 8, s.power.active.getLsbD k.val = true ∧ s.target = s.power.rules[k].ceiling)) ∧
  (∀ (b : Byte) (extra : List Byte), ∀ r : Request, r.op = 0x30#8 → r.operands = b :: extra →
    ∀ (rest : List Request) (s : State), s.atService r rest → 4 ≤ b.toNat →
      ∃ t, exec .stanceOrder s = .next t ∧ Answered rest (r.refusal .range none) s t ∧ ChangesOnly [.requests, .answers] s t) ∧
  ∀ (x : Stance) (extra : List Byte), ∀ r : Request, r.op = 0x30#8 → r.operands = le 1 x.rank ++ extra →
    ∀ (rest : List Request) (s : State), s.atService r rest →
      ∃ t, exec .stanceOrder s = .next t ∧ t.mgmt.requests = rest ∧ ChangesOnly ([.requests] ++ stanceParts) s t ∧
        (s.power.ramp.isSome → Answered rest (r.turnedAway none) s t ∧ ChangesOnly [.requests, .answers] s t) ∧
        (s.power.ramp = none → ∀ u : State, u = { s with power := { s.power with ordered := x } } →
          (u.target.rank < s.power.inEffect.rank → s.power.rampTime ≠ 0 →
            RampStarted u t ∧ t.mgmt.answers = s.mgmt.answers ∧ t.mgmt.deferred = some ⟨r.stream, r.tag⟩) ∧
          (s.power.inEffect.rank ≤ u.target.rank ∨ s.power.rampTime = 0 →
            Evaluated u t [r.done [slotNat t.power.inEffect.rank, slotBool (decide (x.rank < t.power.inEffect.rank))]]))

/-- COUNTERS_CLEAR (R152): every stream's two counters, the link counters and the superseded count, and nothing else; on a LIMITED stream it
is refused ACCESS. -/
def Obligations.CountersClear : Prop :=
  (∀ r : Request, r.op = 0x31#8 → ∀ (rest : List Request) (s : State), s.atService r rest →
    ∃ t, exec .countersClear s = .next t ∧ Answered rest (r.done []) s t ∧
      (∀ i : Fin 32, t.streams[i] = { s.streams[i] with accepted := 0, discarded := 0 }) ∧
      t.link.counters = ⟨0, 0, 0, 0, 0, 0, 0, 0⟩ ∧ t.frames.superseded = 0 ∧
      ChangesOnly [.requests, .answers, .streams, .counters, .superseded] s t) ∧
  ∀ r : Request, r.op = 0x31#8 → ∀ (rest : List Request) (s : State), s.oldest r rest → s.streams[r.stream].access = .limited →
    ∃ t, exec .countersClear s = .next t ∧ Answered rest (r.refusal .access none) s t ∧ ChangesOnly [.requests, .answers] s t

/-! ### Sensing (R3, R4, R12 to R15, R20 to R25, R30, R35) -/

/-- SCAN_TRIGGER (R10, R12 to R15, R25), taken at its due time (log 2), by the effective period as it then is (log 34): `m` is the part with
this trigger as the last of the schedule, whatever becomes of it; `n` is what the trigger makes of it (`TriggerReaches`: dropped, held, the
start of a pass, a pass without member slots, or the next slot of a STEP pass); then the arbiters act. -/
def Obligations.ScanTriggerStartsPass : Prop :=
  ∀ (g : ScanGroup) (s : State), s.served → s.timeRuns = true → (s.group g).trigger = .timer →
    ∀ d : Time, s.triggerDue g = some d → ∀ u : State, u = s.runTo d →
    ∃ t m n, exec (.scanTrigger g) s = .next t ∧
      m.group g = { s.group g with timer := some (.after u.clock.now) } ∧ (∀ h : ScanGroup, h ≠ g → m.group h = s.group h) ∧
      ChangesOnly [.fast, .slow] u m ∧
      TriggerReaches g m n ∧ ArbitersAct n t ∧ ChangesOnly arbiterParts n t

/-- BURST_COMPLETE (R3, R13 to R15, R20 to R22, R24, R26, R27, R35, R36), at 24 µs after the burst's start: `m` is the part with the port
free; every motion slot that the pass stands at, up to its first analog slot, completes from the burst, stamped with its start, in mode STEP
the one slot; the pass then waits for the converter, rearms, or completes (`n`), and the arbiters act: the port and a converter that is free
go to a group that waits for them, FAST before SLOW. That time runs on to the completion is log 2's. -/
def Obligations.BurstCompletesMotionSlots : Prop :=
  ∀ (raw : SixAxes) (s : State), s.served → s.timeRuns = true → ∀ v : InFlight, s.sense.port = some v →
    ∀ p : Pass, (s.group v.owner).pass = some p → p.todo.Nodup →
    ∀ u : State, u = s.runTo (v.start + 24) → ∀ held : HeldBurst, held = ⟨raw, v.start⟩ →
    ∀ ks : List (Fin 16), ks = s.servedAtOnce (some held) (s.group v.owner).mode p.todo →
    ∃ t m n, exec (.burstComplete raw) s = .next t ∧
      m.inUse .port = none ∧ ChangesOnly [.port] u m ∧
      PassAdvances v.owner { p with burst := some held } (s.samplesAtOnce (some held) ks) (p.todo.drop ks.length) m n ∧
      ArbitersAct n t ∧ ChangesOnly arbiterParts n t

/-- CONVERSION_COMPLETE (R4, R13 to R15, R20 to R22, R24, R26, R27, R35, R36), at 3 µs after the conversion's start: `m` is the part with
the converter free; the slot the pass stands at completes, stamped with that start, and with it, but in mode STEP, the motion slots behind
it that a burst of the pass already serves; the pass then goes on to the next slot, rearms in mode STEP, or completes (`n`), and the
arbiters act. That time runs on to the completion is log 2's. -/
def Obligations.ConversionCompletesSlot : Prop :=
  ∀ (raw : BitVec 12) (s : State), s.served → s.timeRuns = true → ∀ v : InFlight, s.sense.converter = some v →
    ∀ p : Pass, (s.group v.owner).pass = some p → p.todo.Nodup → ∀ (k : Fin 16) (tail : List (Fin 16)), p.todo = k :: tail →
    ∀ u : State, u = s.runTo (v.start + 3) →
    ∀ value : Int, value = saturate (-32768) 32767 (roundDiv
      (((if s.sense.channels[k].source = some 15 then 2048 else (raw.toNat : Int)) + s.sense.channels[k].offset) *
        s.sense.channels[k].gain) 4096) →
    ∀ ks : List (Fin 16), ks = (if (s.group v.owner).mode = .step then [] else
      s.servedAtOnce p.burst (s.group v.owner).mode tail) →
    ∃ t m n, exec (.conversionComplete raw) s = .next t ∧
      m.inUse .converter = none ∧ ChangesOnly [.converter] u m ∧
      PassAdvances v.owner p (⟨k, value, v.start⟩ :: s.samplesAtOnce p.burst ks) (tail.drop ks.length) m n ∧
      ArbitersAct n t ∧ ChangesOnly arbiterParts n t

/-- AGE_EXPIRY (R30): at the time the head's age reaches the limit, to which time runs on (log 2), MOTION becomes ready, and nothing else
changes. -/
def Obligations.AgeExpiryMakesReady : Prop :=
  ∀ s : State, s.served → s.timeRuns = true → s.report.expired = false →
    ∀ (e : SampleEntry) (rest : List SampleEntry), s.report.queue = e :: rest →
    ∃ t, exec .ageExpiry s = .next t ∧ t.report = { s.report with expired := true } ∧ t.report.motionReady = true ∧
      t.clock = (s.runTo (e.time + BitVec.ofNat 32 s.report.ageLimit)).clock ∧
      t.link = (s.runTo (e.time + BitVec.ofNat 32 s.report.ageLimit)).link ∧ ChangesOnly [.clock, .lane, .sampleQueue] s t

/-! ### Scanout and panels (R53, R54, R65 to R79) -/

/-- FRAME_LATCH (R53, R54, R62, R68 to R79), at its due time: the READY slot is promoted or a repeat counted; each ON panel's starved
mark, black, shift, window and brightness are judged; the next latch is set a refresh period later; groups with trigger LATCH are
triggered: `m` is the part before those triggers (`LatchReaches`). That time runs on to the latch is log 2's, and that FAST is triggered
before SLOW with the arbiters acting after both is log 27's. -/
def Obligations.FrameLatchShows : Prop :=
  ∀ s : State, s.served → s.timeRuns = true → ∀ d : Time, s.scanout.latchDue = some d → ∀ u : State, u = s.runTo d →
    ∃ t m, exec .frameLatch s = .next t ∧
      ChangesOnly ([.clock, .lane, .slots, .leftPanel, .rightPanel, .latchCount, .latchDue] ++ sensingParts) s t ∧
      t.clock = u.clock ∧ t.link = u.link ∧ t.scanout.latchCount = s.scanout.latchCount + 1 ∧
      t.scanout.latchDue = some (u.clock.now + BitVec.ofNat 32 s.scanout.refresh.period) ∧
      Promoted s t ∧
      (∀ e : Eye, (s.panel e).power ≠ .on → t.panel e = { s.panel e with dx := 0, dy := 0, shown := 0, window := none }) ∧
      (∀ e : Eye, (s.panel e).power = .on → t.slotIn .showing = none →
        t.panel e = { s.panel e with dx := 0, dy := 0, shown := 0, window := none }) ∧
      (∀ (e : Eye) (i : Fin 3), (s.panel e).power = .on → t.slotIn .showing = some i →
        ((s.panel e).repeatLimit < t.frames.slots[i].repeats ∨ s.link.state ≠ .up ∨ s.clock.source = .fallback →
          t.panel e = { s.panel e with
            dx := 0, dy := 0, shown := 0, window := none
            starved := decide ((s.panel e).repeatLimit < t.frames.slots[i].repeats) }) ∧
        (t.frames.slots[i].repeats ≤ (s.panel e).repeatLimit → s.link.state = .up → s.clock.source = .crystal →
          ∀ shift : Int × Int, shift = (s.panel e).wantedShift t.frames.slots[i] s.pose.history →
          t.panel e = { s.panel e with
            dx := clampShift (s.panel e).marginH shift.1
            dy := clampShift (s.panel e).marginV shift.2
            shown := min (s.panel e).setpoint s.power.cap
            starved := false
            window := some ⟨i, (s.panel e).marginH - clampShift (s.panel e).marginH shift.1,
              (s.panel e).marginV - clampShift (s.panel e).marginV shift.2⟩ })) ∧
      ((∀ g : ScanGroup, (s.group g).trigger ≠ .latch) → SenseLaw s →
        ChangesOnly [.clock, .lane, .slots, .leftPanel, .rightPanel, .latchCount, .latchDue, .raised, .notice] s t ∧
        (t.slotIn .showing = none → EventsRaised 0 s t) ∧
        (∀ i : Fin 3, t.slotIn .showing = some i → EventsRaised (s.latchMarks t.frames.slots[i]) s t)) ∧
      ChangesOnly [.clock, .lane, .slots, .leftPanel, .rightPanel, .latchCount, .latchDue, .raised, .notice] s m ∧
      m.clock = u.clock ∧ m.link = u.link ∧ m.frames = t.frames ∧
      (t.slotIn .showing = none → EventsRaised 0 s m) ∧
      (∀ i : Fin 3, t.slotIn .showing = some i → EventsRaised (s.latchMarks t.frames.slots[i]) s m) ∧
      LatchReaches m t

/-- PANEL_READY and POWER_DOWN_COMPLETE (R65, R66, R68), at the end of their sequences: the panel goes ON, with the latch of FRAME_LATCH at
once if the timer was stopped (R69 to R79, R12); a STOPPING panel goes OFF, or STARTING while the demand is yes. That headset time runs on
to the sequence's end is log 2's. -/
def Obligations.PanelSequences : Prop :=
  (∀ (e : Eye) (s : State), s.served → s.timeRuns = true → (s.panel e).power = .starting → ∀ u : State, u = s.runTo (s.panel e).seqEnd →
    ∃ t, exec (.panelReady e) s = .next t ∧ t.clock = u.clock ∧ t.link = u.link ∧ (t.panel e).power = .on ∧
      (∀ d : Eye, d ≠ e → (t.panel d).power = (s.panel d).power) ∧
      (s.scanout.latchDue.isSome → t.panel e = { s.panel e with power := .on, dx := 0, dy := 0, shown := 0, window := none } ∧
        (∀ d : Eye, d ≠ e → t.panel d = s.panel d) ∧ ChangesOnly [.clock, .lane, .leftPanel, .rightPanel] s t) ∧
      (s.scanout.latchDue = none →
        (∃ v : State, v.panel e = { s.panel e with power := .on, dx := 0, dy := 0, shown := 0, window := none } ∧
          (∀ d : Eye, d ≠ e → v.panel d = s.panel d) ∧ v.scanout.latchDue = some u.clock.now ∧
          ChangesOnly [.leftPanel, .rightPanel, .latchDue] u v ∧ exec .frameLatch v = .next t) ∧
        t.scanout.latchCount = s.scanout.latchCount + 1 ∧ Promoted s t ∧
        t.scanout.latchDue = some (u.clock.now + BitVec.ofNat 32 s.scanout.refresh.period) ∧
        ChangesOnly ([.clock, .lane, .slots, .leftPanel, .rightPanel, .latchCount, .latchDue] ++ sensingParts) s t)) ∧
  ∀ (e : Eye) (s : State), s.served → s.timeRuns = true → (s.panel e).power = .stopping → ∀ u : State, u = s.runTo (s.panel e).seqEnd →
    ∃ t, exec (.powerDownComplete e) s = .next t ∧ t.clock = u.clock ∧ t.link = u.link ∧
      t.panel e = (if s.scanout.enable = true ∧ s.stance.panels = true
        then { s.panel e with power := .starting, seqEnd := u.clock.now + 20000 } else { s.panel e with power := .off }) ∧
      (∀ d : Eye, d ≠ e → t.panel d = s.panel d) ∧ ChangesOnly [.clock, .lane, .leftPanel, .rightPanel] s t

/-! ### Power and the upstream lane (R104 to R109, R125 to R127) -/

/-- STANCE_CHECK (R104 to R109), at its due time: `m` is the part once the marks are set and MONITOR_STALE is raised; then the target is
evaluated, and a ramp the evaluation leaves in progress takes one step, rounded toward its start, or its last step, which settles. That time
runs on to the check is log 2's; a latest time that reads as after the check counts as stale by log 32. -/
def Obligations.StanceCheckEvaluates : Prop :=
  ∀ s : State, s.served → s.timeRuns = true → ∀ u : State, u = s.runTo s.power.checkDue →
    ∃ t m, exec .stanceCheck s = .next t ∧
      ChangesOnly [.clock, .lane, .marks, .checkDue, .raised, .notice] s m ∧ m.clock = u.clock ∧ m.link = u.link ∧
      m.power.checkDue = u.clock.now + 10000 ∧
      (∀ k : Fin 8, m.power.stale.getLsbD k.val = (s.power.rules[k].enabled &&
        (!s.sense.samples[s.power.rules[k].slot].valid || decide (s.power.staleLimit * 1000 <
          distance s.sense.samples[s.power.rules[k].slot].time u.clock.now)))) ∧
      (∀ k : Fin 8, m.power.active.getLsbD k.val = ((s.power.rules[k].enabled &&
        s.sense.samples[s.power.rules[k].slot].alarm) || m.power.stale.getLsbD k.val)) ∧
      EventsRaised (EventKind.monitorStale.markIf (m.power.stale != 0)) s m ∧
      ChangesOnly stanceParts m t ∧
      (m.target ≠ m.power.inEffect → Evaluated m t []) ∧
      (m.target = m.power.inEffect → s.power.ramp = none → t = m) ∧
      (m.target = m.power.inEffect → ∀ r : Ramp, s.power.ramp = some r →
        PushTaken m t ∧
        (r.j + 1 < r.n → ∃ cap floor : Nat,
          t.power = { m.power with cap := cap, floor := floor, ramp := some { r with j := r.j + 1 } } ∧
          (cap : Int) = r.startCap + (((r.goalCap : Int) - r.startCap) * (r.j + 1)).tdiv r.n ∧
          (floor : Int) = r.startFloor + (((r.goalFloor : Int) - r.startFloor) * (r.j + 1)).tdiv r.n ∧
          EventsRaised 0 m t ∧ t.mgmt = m.mgmt) ∧
        (r.n ≤ r.j + 1 → t.power = { m.power with cap := r.goalCap, floor := r.goalFloor, ramp := none } ∧
          EventsRaised EventKind.stanceChanged.mark m t ∧ t.mgmt.deferred = none ∧
          t.mgmt.answers = m.mgmt.answers ++ m.settledAnswers t))

/-- CELL_BOUNDARY (R32, R97, R125 to R127, R143, R164): nothing leaves while the link is not UP or the source is not CRYSTAL; else MOTION if
it is ready, else the first ready class after the last one granted in the order VOICE, ANSWER, NOTICE, else FILL. That the service of the
next request (R143, R144) is an event of its own, after the ANSWER grant, is log 6's; that a new head whose time reads as after now has
expired is log 32's. -/
def Obligations.CellBoundaryGrants : Prop :=
  (∀ s : State, s.served → s.link.state ≠ .up ∨ s.clock.source ≠ .crystal →
    ∃ t, exec .cellBoundary s = .next t ∧ t.sender = { s.sender with wire := none } ∧ ChangesOnly [.wire] s t) ∧
  ∀ s : State, s.served → s.link.state = .up → s.clock.source = .crystal →
    ∃ t, exec .cellBoundary s = .next t ∧
      (s.report.motionReady = true → ∃ (base : SampleEntry) (taken rest : List SampleEntry),
        s.report.queue = base :: taken ++ rest ∧ taken.length ≤ 59 ∧
        (∀ e ∈ taken, distance base.time e.time < 65536) ∧
        (taken.length = 59 ∨ rest = [] ∨ ∃ e ∈ rest.head?, 65536 ≤ distance base.time e.time) ∧
        t.sender = { s.sender with wire := some (.motion base.time s.report.gap
          ((base :: taken).map fun e => ⟨e.slot, e.value, distance base.time e.time⟩)) } ∧
        t.report.queue = rest ∧ t.report.gap = 0 ∧ t.report.filling = false ∧
        t.report.expired = (rest.head?.any fun e => decide (s.report.ageLimit ≤ distance e.time s.clock.now)) ∧
        ChangesOnly [.sampleQueue, .wire] s t) ∧
      (s.report.motionReady = false → ∀ c : CyclicClass, s.ready c = true →
        (∀ d ∈ s.sender.last.after.takeWhile (· != c), s.ready d = false) →
        t.sender.last = c ∧
        (c = .voice → ∃ (first : CaptureEntry) (others : List CaptureEntry), s.sound.capture.take 240 = first :: others ∧
          t.sender.wire = some (.voice first.time s.sound.captureGap ((first :: others).map (·.sample))) ∧
          t.sound.capture = s.sound.capture.drop 240 ∧ t.sound.captureGap = 0 ∧ t.sound.captureFilling = false ∧
          ChangesOnly [.capture, .lastCyclic, .wire] s t) ∧
        (c = .answer → ∃ a : Answer, s.mgmt.answers.head? = some a ∧ t.sender.wire = some (.answer a) ∧
          t.mgmt.answers = s.mgmt.answers.tail ∧ ChangesOnly [.answers, .lastCyclic, .wire] s t) ∧
        (c = .notice → t.sender.wire = some (.notice s.events.pending) ∧ t.events.notice = false ∧
          ChangesOnly [.notice, .lastCyclic, .wire] s t)) ∧
      (s.report.motionReady = false → (∀ c : CyclicClass, s.ready c = false) →
        t.sender = { s.sender with wire := some .fill } ∧ ChangesOnly [.wire] s t)

end
end

