-- ==== Sys2Proof/Laws/Changes.lean ====
section
/-! SUPPORT. For each shared operation, the parts of the state it can change; everything else reads as before. -/

namespace Sys2Proof.Machine

theorem Part.same_refl (p : Part) (s : State) : p.same s s := by
  cases p <;> simp [Part.same]

theorem Part.same_trans {p : Part} {s t u : State} (h : p.same s t) (k : p.same t u) : p.same s u := by
  cases p <;> simp only [Part.same] at * <;> simp_all

theorem ChangesOnly.refl (P : List Part) (s : State) : ChangesOnly P s s := fun p _ => p.same_refl s

theorem ChangesOnly.mono {P Q : List Part} {s t : State} (h : ChangesOnly P s t) (k : P ⊆ Q) : ChangesOnly Q s t :=
  fun p hp => h p fun hq => hp (k hq)

theorem ChangesOnly.trans {P : List Part} {s t u : State} (h : ChangesOnly P s t) (k : ChangesOnly P t u) :
    ChangesOnly P s u := fun p hp => Part.same_trans (h p hp) (k p hp)

/-- Two changes in a row, each within its own parts. -/
theorem ChangesOnly.step {P Q R : List Part} {s t u : State} (h : ChangesOnly P s t) (k : ChangesOnly Q t u)
    (hP : P ⊆ R) (hQ : Q ⊆ R) : ChangesOnly R s u := (h.mono hP).trans (k.mono hQ)

/-! ### Events, time and queues -/

theorem State.raise_changes (k : EventKind) (s : State) : ChangesOnly eventParts s (s.raise k) := by
  (intro p hp; cases p <;> first | exact absurd (by decide) hp | exact rfl | exact ⟨rfl, rfl⟩ | exact ⟨rfl, rfl, rfl⟩ | exact ⟨rfl, rfl, rfl, rfl⟩)

theorem State.raiseIf_changes (b : Bool) (k : EventKind) (s : State) : ChangesOnly eventParts s (s.raiseIf b k) := by
  unfold State.raiseIf; split
  · exact s.raise_changes k
  · exact .refl _ s

theorem State.clearEvents_changes (x : EventSet) (s : State) : ChangesOnly eventParts s (s.clearEvents x) := by
  (intro p hp; cases p <;> first | exact absurd (by decide) hp | exact rfl | exact ⟨rfl, rfl⟩ | exact ⟨rfl, rfl, rfl⟩ | exact ⟨rfl, rfl, rfl, rfl⟩)

theorem State.enableEvents_changes (x : EventSet) (s : State) : ChangesOnly [.enabled, .notice] s (s.enableEvents x) := by
  (intro p hp; cases p <;> first | exact absurd (by decide) hp | exact rfl | exact ⟨rfl, rfl⟩ | exact ⟨rfl, rfl, rfl⟩ | exact ⟨rfl, rfl, rfl, rfl⟩)

theorem State.disableEvents_changes (x : EventSet) (s : State) : ChangesOnly [.enabled, .notice] s (s.disableEvents x) := by
  (intro p hp; cases p <;> first | exact absurd (by decide) hp | exact rfl | exact ⟨rfl, rfl⟩ | exact ⟨rfl, rfl, rfl⟩ | exact ⟨rfl, rfl, rfl, rfl⟩)

theorem State.injectEvents_changes (x : EventSet) (s : State) : ChangesOnly eventParts s (s.injectEvents x) := by
  (intro p hp; cases p <;> first | exact absurd (by decide) hp | exact rfl | exact ⟨rfl, rfl⟩ | exact ⟨rfl, rfl, rfl⟩ | exact ⟨rfl, rfl, rfl, rfl⟩)

theorem State.setGate_changes (b : Bool) (s : State) : ChangesOnly [.gate, .notice] s (s.setGate b) := by
  (intro p hp; cases p <;> first | exact absurd (by decide) hp | exact rfl | exact ⟨rfl, rfl⟩ | exact ⟨rfl, rfl, rfl⟩ | exact ⟨rfl, rfl, rfl, rfl⟩)

theorem State.setLock_changes (s : State) : ChangesOnly [.lock] s (s.setLock) := by
  (intro p hp; cases p <;> first | exact absurd (by decide) hp | exact rfl | exact ⟨rfl, rfl⟩ | exact ⟨rfl, rfl, rfl⟩ | exact ⟨rfl, rfl, rfl, rfl⟩)

theorem State.elapse_changes (d : Nat) (s : State) : ChangesOnly [.clock, .lane] s (s.elapse d) := by
  (intro p hp; cases p <;> first | exact absurd (by decide) hp | exact rfl | exact ⟨rfl, rfl⟩ | exact ⟨rfl, rfl, rfl⟩ | exact ⟨rfl, rfl, rfl, rfl⟩)

theorem State.runTo_changes (t : Time) (s : State) : ChangesOnly [.clock, .lane] s (s.runTo t) := by
  unfold State.runTo; split
  · exact .refl _ s
  · exact s.elapse_changes _

theorem State.timed_changes {P : List Part} {f : State → State} (due : Option Time) (s : State)
    (h : ∀ u, ChangesOnly P u (f u)) : ChangesOnly ([.clock, .lane] ++ P) s (s.timed due f) := by
  unfold State.timed; split
  · split
    · exact (s.runTo_changes _).step (h _) (List.subset_append_left _ _) (List.subset_append_right _ _)
    · exact .refl _ s
  · exact .refl _ s

theorem State.placeAnswer_changes (a : Answer) (s : State) : ChangesOnly [.answers] s (s.placeAnswer a) := by
  (intro p hp; cases p <;> first | exact absurd (by decide) hp | exact rfl | exact ⟨rfl, rfl⟩ | exact ⟨rfl, rfl, rfl⟩ | exact ⟨rfl, rfl, rfl, rfl⟩)

/-! ### Motion reports and the pose -/

theorem State.offerSample_changes (e : SampleEntry) (s : State) :
    ChangesOnly [.sampleQueue, .raised, .notice] s (s.offerSample e) := by
  unfold State.offerSample; dsimp only; split
  · (intro p hp; cases p <;> first | exact absurd (by decide) hp | exact rfl | exact ⟨rfl, rfl⟩ | exact ⟨rfl, rfl, rfl⟩ | exact ⟨rfl, rfl, rfl, rfl⟩)
  · refine ChangesOnly.step (P := [.sampleQueue]) (t := { s with report := _ }) ?_ (State.raiseIf_changes _ _ _) (by decide) (by decide)
    (intro p hp; cases p <;> first | exact absurd (by decide) hp | exact rfl | exact ⟨rfl, rfl⟩ | exact ⟨rfl, rfl, rfl⟩ | exact ⟨rfl, rfl, rfl, rfl⟩)

theorem State.buildMotion_changes {s t : State} {c : UpCell} (h : s.buildMotion = some (c, t)) :
    ChangesOnly [.sampleQueue] s t := by
  unfold State.buildMotion at h; dsimp only at h; split at h
  · cases h
  · obtain ⟨rfl, rfl⟩ := by simpa using h
    (intro p hp; cases p <;> first | exact absurd (by decide) hp | exact rfl | exact ⟨rfl, rfl⟩ | exact ⟨rfl, rfl, rfl⟩ | exact ⟨rfl, rfl, rfl, rfl⟩)

theorem State.ageHead_changes (s : State) : ChangesOnly [.sampleQueue] s (s.ageHead) := by
  (intro p hp; cases p <;> first | exact absurd (by decide) hp | exact rfl | exact ⟨rfl, rfl⟩ | exact ⟨rfl, rfl, rfl⟩ | exact ⟨rfl, rfl, rfl, rfl⟩)

theorem State.clearHistory_changes (s : State) : ChangesOnly [.pose] s (s.clearHistory) := by
  (intro p hp; cases p <;> first | exact absurd (by decide) hp | exact rfl | exact ⟨rfl, rfl⟩ | exact ⟨rfl, rfl, rfl⟩ | exact ⟨rfl, rfl, rfl, rfl⟩)

theorem State.integratePass_changes (t : Time) (y q : Option Int) (s : State) :
    ChangesOnly [.pose, .raised, .notice] s (s.integratePass t y q) := by
  unfold State.integratePass; split
  · exact .refl _ s
  · dsimp only
    refine ChangesOnly.step (P := [.pose]) (t := { s with pose := _ }) ?_ (State.raiseIf_changes _ _ _) (by decide) (by decide)
    (intro p hp; cases p <;> first | exact absurd (by decide) hp | exact rfl | exact ⟨rfl, rfl⟩ | exact ⟨rfl, rfl, rfl⟩ | exact ⟨rfl, rfl, rfl, rfl⟩)

/-! ### The Sense Engine -/

theorem State.setGroup_changes (g : ScanGroup) (x : Group) (s : State) : ChangesOnly [.fast, .slow] s (s.setGroup g x) := by
  cases g <;> (intro p hp; cases p <;> first | exact absurd (by decide) hp | exact rfl | exact ⟨rfl, rfl⟩ | exact ⟨rfl, rfl, rfl⟩ | exact ⟨rfl, rfl, rfl, rfl⟩)

theorem State.setSample_changes (k : Fin 16) (x : SampleState) (s : State) : ChangesOnly [.samples] s (s.setSample k x) := by
  (intro p hp; cases p <;> first | exact absurd (by decide) hp | exact rfl | exact ⟨rfl, rfl⟩ | exact ⟨rfl, rfl, rfl⟩ | exact ⟨rfl, rfl, rfl, rfl⟩)

theorem State.sampleComplete_changes (k : Fin 16) (raw : Int) (t : Time) (s : State) :
    ChangesOnly [.samples, .sampleQueue, .raised, .notice] s (s.sampleComplete k raw t) := by
  unfold State.sampleComplete; dsimp only
  have h := fun x b => (s.setSample_changes k x).step (R := [.samples, .sampleQueue, .raised, .notice])
    ((s.setSample k x).raiseIf_changes b .rangeAlarm) (by decide) (by decide)
  split
  · exact (h _ _).step (State.offerSample_changes _ _) (by decide) (by decide)
  · exact h _ _

theorem State.refillSnapshot_changes (t : Time) (s : State) :
    ChangesOnly [.snapshot, .raised, .notice] s (s.refillSnapshot t) := by
  unfold State.refillSnapshot
  refine ChangesOnly.step (P := [.snapshot]) (t := { s with sense := _ }) ?_ (State.raise_changes _ _) (by decide) (by decide)
  (intro p hp; cases p <;> first | exact absurd (by decide) hp | exact rfl | exact ⟨rfl, rfl⟩ | exact ⟨rfl, rfl, rfl⟩ | exact ⟨rfl, rfl, rfl, rfl⟩)

theorem State.passComplete_changes (g : ScanGroup) (p : Pass) (s : State) : ChangesOnly sensingParts s (s.passComplete g p) := by
  unfold State.passComplete; dsimp only
  have h := fun x => s.setGroup_changes g x
  cases g
  · exact (h _).step (State.integratePass_changes _ _ _ _) (by decide) (by decide)
  · dsimp only; split
    · exact (h _).step (State.refillSnapshot_changes _ _) (by decide) (by decide)
    · exact (h _).mono (by decide)

theorem State.walk_changes (g : ScanGroup) (p : Pass) (todo : List (Fin 16)) (s : State) :
    ChangesOnly sensingParts s (s.walk g p todo) := by
  induction todo generalizing s with
  | nil => exact s.passComplete_changes g p
  | cons k rest ih =>
    have stay := fun x => (s.setGroup_changes g x).mono (Q := sensingParts) (by decide)
    unfold State.walk
    split
    · split
      · have h := s.sampleComplete_changes k
        dsimp only; split
        · exact (h _ _).step (State.setGroup_changes _ _ _) (by decide) (by decide)
        · exact ((h _ _).mono (by decide)).trans (ih _)
      · exact stay _
    · exact stay _

theorem State.walkOn_changes (g : ScanGroup) (p : Pass) (rest : List (Fin 16)) (s : State) :
    ChangesOnly sensingParts s (s.walkOn g p rest) := by
  unfold State.walkOn; split
  · exact (s.setGroup_changes g _).mono (by decide)
  · exact s.walk_changes g p rest

theorem State.startPass_changes (g : ScanGroup) (s : State) : ChangesOnly sensingParts s (s.startPass g) :=
  s.walk_changes g _ _

theorem State.grantTo_changes (g : ScanGroup) (r : Resource) (s : State) :
    ChangesOnly [.fast, .slow, .port, .converter] s (s.grantTo g r) := by
  have h : ChangesOnly [.fast, .slow] s (s.stampPass g) := s.setGroup_changes g _
  have k : ∀ u : State, ∀ a b, ChangesOnly [.port, .converter] u { u with sense := { u.sense with port := a, converter := b } } := by
    intro u a b; (intro p hp; cases p <;> first | exact absurd (by decide) hp | exact rfl | exact ⟨rfl, rfl⟩ | exact ⟨rfl, rfl, rfl⟩ | exact ⟨rfl, rfl, rfl, rfl⟩)
  unfold State.grantTo
  cases r
  · exact h.step (k _ (some ⟨g, (s.stampPass g).clock.now⟩) (s.stampPass g).sense.converter) (by decide) (by decide)
  · exact h.step (k _ (s.stampPass g).sense.port (some ⟨g, (s.stampPass g).clock.now⟩)) (by decide) (by decide)

theorem State.arbitrateOne_changes (r : Resource) (s : State) :
    ChangesOnly [.fast, .slow, .port, .converter] s (s.arbitrateOne r) := by
  unfold State.arbitrateOne
  split
  · exact .refl _ s
  · split
    · exact s.grantTo_changes _ r
    · split
      · exact s.grantTo_changes _ r
      · exact .refl _ s

theorem State.arbitrate_changes (s : State) : ChangesOnly [.fast, .slow, .port, .converter] s s.arbitrate :=
  (s.arbitrateOne_changes _).trans (State.arbitrateOne_changes _ _)

theorem State.trigger_changes (g : ScanGroup) (s : State) : ChangesOnly sensingParts s (s.trigger g) := by
  unfold State.trigger; dsimp only
  split
  · exact .refl _ s
  · exact (s.raise_changes _).mono (by decide)
  · exact (s.raise_changes _).mono (by decide)
  · split
    · exact s.walk_changes g _ _
    · split
      · exact (s.setGroup_changes g _).mono (by decide)
      · exact s.startPass_changes g

theorem State.latchTriggers_changes (s : State) : ChangesOnly sensingParts s s.latchTriggers := by
  unfold State.latchTriggers; dsimp only
  have one : ∀ (g : ScanGroup) (u : State), ChangesOnly sensingParts u (if (u.group g).trigger = .latch then u.trigger g else u) := by
    intro g u; split
    · exact u.trigger_changes g
    · exact .refl _ u
  exact ((one .fast s).trans (one .slow _)).step (State.arbitrate_changes _) (by decide) (by decide)

theorem State.timerTrigger_changes (g : ScanGroup) (s : State) : ChangesOnly sensingParts s (s.timerTrigger g) :=
  (((s.setGroup_changes g _).mono (Q := sensingParts) (by decide)).trans (State.trigger_changes g _)).step
    (State.arbitrate_changes _) (by decide) (by decide)

theorem State.armGroup_changes (g : ScanGroup) (s : State) : ChangesOnly [.fast, .slow] s (s.armGroup g) :=
  s.setGroup_changes g _

theorem State.abandonInFlight_changes (g : ScanGroup) (s : State) : ChangesOnly [.port, .converter] s (s.abandonInFlight g) := by
  (intro p hp; cases p <;> first | exact absurd (by decide) hp | exact rfl | exact ⟨rfl, rfl⟩ | exact ⟨rfl, rfl, rfl⟩ | exact ⟨rfl, rfl, rfl, rfl⟩)

theorem State.stopGroup_changes (g : ScanGroup) (s : State) :
    ChangesOnly [.fast, .slow, .port, .converter] s (s.stopGroup g) :=
  ((s.setGroup_changes g _).step (State.abandonInFlight_changes g _) (by decide) (by decide)).trans (State.arbitrate_changes _)

theorem State.forceStopFast_changes (s : State) : ChangesOnly [.fast, .slow, .port, .converter, .pose] s s.forceStopFast :=
  (s.stopGroup_changes _).step (State.clearHistory_changes _) (by decide) (by decide)

theorem State.burstDone_changes (raw : SixAxes) (s : State) : ChangesOnly sensingParts s (s.burstDone raw) := by
  unfold State.burstDone; split
  · exact .refl _ s
  · rename_i u _
    have h : ChangesOnly [.port] s { s with sense := { s.sense with port := none } } := by
      (intro p hp; cases p <;> first | exact absurd (by decide) hp | exact rfl | exact ⟨rfl, rfl⟩ | exact ⟨rfl, rfl, rfl⟩ | exact ⟨rfl, rfl, rfl, rfl⟩)
    dsimp only; split
    · exact h.step (State.arbitrate_changes _) (by decide) (by decide)
    · exact (h.step (State.walk_changes _ _ _ _) (R := sensingParts) (by decide) (by decide)).step (State.arbitrate_changes _)
        (by decide) (by decide)

theorem State.conversionDone_changes (raw : BitVec 12) (s : State) : ChangesOnly sensingParts s (s.conversionDone raw) := by
  unfold State.conversionDone; split
  · exact .refl _ s
  · rename_i u _
    have h : ChangesOnly [.converter] s { s with sense := { s.sense with converter := none } } := by
      (intro p hp; cases p <;> first | exact absurd (by decide) hp | exact rfl | exact ⟨rfl, rfl⟩ | exact ⟨rfl, rfl, rfl⟩ | exact ⟨rfl, rfl, rfl, rfl⟩)
    dsimp only; split
    · exact h.step (State.arbitrate_changes _) (by decide) (by decide)
    · split
      · exact h.step (State.arbitrate_changes _) (by decide) (by decide)
      · refine ChangesOnly.step (R := sensingParts) (Q := [.fast, .slow, .port, .converter]) (P := sensingParts) ?_
          (State.arbitrate_changes _) (by decide) (by decide)
        exact (h.step (State.sampleComplete_changes _ _ _ _) (R := sensingParts) (by decide) (by decide)).trans
          (State.walkOn_changes _ _ _ _)

theorem State.takeSnapshot_changes (s : State) : ChangesOnly sensingParts s s.takeSnapshot := by
  unfold State.takeSnapshot; split
  · exact .refl _ s
  · have h : ChangesOnly [.snapshot] s { s with sense := { s.sense with snapshot := { s.sense.snapshot with taken := true } } } := by
      (intro p hp; cases p <;> first | exact absurd (by decide) hp | exact rfl | exact ⟨rfl, rfl⟩ | exact ⟨rfl, rfl, rfl⟩ | exact ⟨rfl, rfl, rfl, rfl⟩)
    dsimp only; split
    · exact (h.step (State.startPass_changes _ _) (R := sensingParts) (by decide) (by decide)).step (State.arbitrate_changes _)
        (by decide) (by decide)
    · exact h.mono (by decide)

theorem State.samples_changes (v : Vector SampleState 16) (s : State) :
    ChangesOnly [.samples] s { s with sense := { s.sense with samples := v } } := by
  (intro p hp; cases p <;> first | exact absurd (by decide) hp | exact rfl | exact ⟨rfl, rfl⟩ | exact ⟨rfl, rfl, rfl⟩ | exact ⟨rfl, rfl, rfl, rfl⟩)

theorem State.clearRange_changes (x : BitVec 16) (s : State) : ChangesOnly [.samples] s (s.clearRange x) := s.samples_changes _

theorem State.clearExtremes_changes (x : BitVec 16) (s : State) : ChangesOnly [.samples] s (s.clearExtremes x) :=
  s.samples_changes _

/-! ### The Frame Store -/

theorem State.setSlot_changes (i : Fin 3) (f : FrameSlot) (s : State) : ChangesOnly [.slots] s (s.setSlot i f) := by
  (intro p hp; cases p <;> first | exact absurd (by decide) hp | exact rfl | exact ⟨rfl, rfl⟩ | exact ⟨rfl, rfl, rfl⟩ | exact ⟨rfl, rfl, rfl, rfl⟩)

theorem State.emptySlot_changes (i : Fin 3) (s : State) : ChangesOnly [.slots] s (s.emptySlot i) := by
  (intro p hp; cases p <;> first | exact absurd (by decide) hp | exact rfl | exact ⟨rfl, rfl⟩ | exact ⟨rfl, rfl, rfl⟩ | exact ⟨rfl, rfl, rfl, rfl⟩)

theorem State.supersede_changes (i : Fin 3) (s : State) : ChangesOnly [.slots, .superseded] s (s.supersede i) := by
  (intro p hp; cases p <;> first | exact absurd (by decide) hp | exact rfl | exact ⟨rfl, rfl⟩ | exact ⟨rfl, rfl, rfl⟩ | exact ⟨rfl, rfl, rfl, rfl⟩)

theorem State.openFrame_changes (f : BitVec 16) (n : Bool) (t : Time) (s : State) :
    ChangesOnly [.slots, .raised, .notice] s (s.openFrame f n t).2 := by
  unfold State.openFrame; dsimp only; split
  · exact (s.raise_changes _).step (State.setSlot_changes _ _ _) (by decide) (by decide)
  · split
    · exact (s.setSlot_changes _ _).mono (by decide)
    · exact (s.raise_changes _).mono (by decide)

theorem State.acceptBand_changes (f : BitVec 16) (e b : Byte) (rows : List Byte) (s : State) :
    ChangesOnly [.writes] s (s.acceptBand f e b rows).2 := by
  unfold State.acceptBand; split
  · exact .refl _ s
  · (intro p hp; cases p <;> first | exact absurd (by decide) hp | exact rfl | exact ⟨rfl, rfl⟩ | exact ⟨rfl, rfl, rfl⟩ | exact ⟨rfl, rfl, rfl, rfl⟩)

theorem State.completeSlot_changes (i : Fin 3) (s : State) :
    ChangesOnly [.slots, .superseded, .raised, .notice] s (s.completeSlot i) := by
  unfold State.completeSlot; dsimp only; split
  · split
    · exact (s.supersede_changes _).step (State.setSlot_changes _ _ _) (by decide) (by decide)
    · exact (s.setSlot_changes _ _).mono (by decide)
  · exact (s.emptySlot_changes _).step (State.raise_changes _ _) (by decide) (by decide)

theorem State.closeFrame_changes (f : BitVec 16) (s : State) :
    ChangesOnly [.slots, .superseded, .raised, .notice] s (s.closeFrame f).2 := by
  unfold State.closeFrame; split
  · exact .refl _ s
  · dsimp only; split
    · have fin : ∀ (u : State) (i : Fin 3) (x : FrameSlot), ChangesOnly [.slots, .superseded, .raised, .notice] u
          (if (u.setSlot i x).outstanding i = 0 then (u.setSlot i x).completeSlot i else u.setSlot i x) := by
        intro u i x; split
        · exact (u.setSlot_changes _ _).step (State.completeSlot_changes _ _) (by decide) (by decide)
        · exact (u.setSlot_changes _ _).mono (by decide)
      split
      · exact (s.supersede_changes _).step (fin _ _ _) (by decide) (by decide)
      · exact fin _ _ _
    · exact .refl _ s

theorem State.completeWrite_changes (i : Fin 3) (s : State) :
    ChangesOnly [.slots, .writes, .dram, .superseded, .raised, .notice] s (s.completeWrite i) := by
  unfold State.completeWrite; split
  · exact .refl _ s
  · rename_i w rest _
    have h : ChangesOnly [.writes, .dram] s
        { s with frames := { s.frames with writes := rest, dram := s.frames.dram.store w.place w.rows } } := by
      (intro p hp; cases p <;> first | exact absurd (by decide) hp | exact rfl | exact ⟨rfl, rfl⟩ | exact ⟨rfl, rfl, rfl⟩ | exact ⟨rfl, rfl, rfl, rfl⟩)
    dsimp only
    have k : ∀ f, ChangesOnly [.slots, .writes, .dram] s (State.setSlot i f
        { s with frames := { s.frames with writes := rest, dram := s.frames.dram.store w.place w.rows } }) :=
      fun f => h.step (State.setSlot_changes _ _ _) (by decide) (by decide)
    split <;> split
    · exact (k _).step (State.completeSlot_changes _ _) (by decide) (by decide)
    · exact (k _).mono (by decide)
    · exact h.step (State.completeSlot_changes _ _) (by decide) (by decide)
    · exact h.mono (by decide)

theorem State.promote_changes (s : State) : ChangesOnly [.slots] s s.promote := by
  unfold State.promote; split
  · dsimp only; split
    · exact (s.emptySlot_changes _).trans (State.setSlot_changes _ _ _)
    · exact s.setSlot_changes _ _
  · exact s.setSlot_changes _ _
  · exact .refl _ s

theorem State.abandonFilling_changes (s : State) : ChangesOnly [.slots, .raised, .notice] s s.abandonFilling := by
  unfold State.abandonFilling; split
  · exact (s.emptySlot_changes _).step (State.raise_changes _ _) (by decide) (by decide)
  · exact .refl _ s

theorem State.emptyAllSlots_changes (s : State) : ChangesOnly [.slots, .raised, .notice] s s.emptyAllSlots := by
  unfold State.emptyAllSlots; dsimp only
  refine ChangesOnly.step (P := [.slots]) (t := { s with frames := _ }) ?_ (State.raiseIf_changes _ _ _) (by decide) (by decide)
  (intro p hp; cases p <;> first | exact absurd (by decide) hp | exact rfl | exact ⟨rfl, rfl⟩ | exact ⟨rfl, rfl, rfl⟩ | exact ⟨rfl, rfl, rfl, rfl⟩)

/-! ### The Scanout Unit -/

theorem State.setPanel_changes (e : Eye) (p : Panel) (s : State) : ChangesOnly [.leftPanel, .rightPanel] s (s.setPanel e p) := by
  cases e <;> (intro p hp; cases p <;> first | exact absurd (by decide) hp | exact rfl | exact ⟨rfl, rfl⟩ | exact ⟨rfl, rfl, rfl⟩ | exact ⟨rfl, rfl, rfl, rfl⟩)

theorem State.followDemand_changes (s : State) : ChangesOnly [.leftPanel, .rightPanel, .latchDue] s s.followDemand := by
  unfold State.followDemand Scanout.stopIdleTimer; dsimp only; split <;>
    (intro p hp; cases p <;> first | exact absurd (by decide) hp | exact rfl | exact ⟨rfl, rfl⟩ | exact ⟨rfl, rfl, rfl⟩ | exact ⟨rfl, rfl, rfl, rfl⟩)

theorem State.blackOut_changes (s : State) : ChangesOnly [.leftPanel, .rightPanel] s (s.blackOut) := by
  (intro p hp; cases p <;> first | exact absurd (by decide) hp | exact rfl | exact ⟨rfl, rfl⟩ | exact ⟨rfl, rfl, rfl⟩ | exact ⟨rfl, rfl, rfl, rfl⟩)

theorem State.limitBrightness_changes (s : State) : ChangesOnly [.leftPanel, .rightPanel] s (s.limitBrightness) := by
  (intro p hp; cases p <;> first | exact absurd (by decide) hp | exact rfl | exact ⟨rfl, rfl⟩ | exact ⟨rfl, rfl, rfl⟩ | exact ⟨rfl, rfl, rfl, rfl⟩)

theorem State.frameLatch_changes (s : State) :
    ChangesOnly ([.slots, .leftPanel, .rightPanel, .latchCount, .latchDue] ++ sensingParts) s s.frameLatch := by
  unfold State.frameLatch; dsimp only
  have latched : ∀ (u : State) (l r : Panel) (n : Count) (d : Option Time),
      ChangesOnly [.leftPanel, .rightPanel, .latchCount, .latchDue] u
        { u with scanout := { u.scanout with left := l, right := r, latchCount := n, latchDue := d } } := by
    intro u l r n d; (intro p hp; cases p <;> first | exact absurd (by decide) hp | exact rfl | exact ⟨rfl, rfl⟩ | exact ⟨rfl, rfl, rfl⟩ | exact ⟨rfl, rfl, rfl, rfl⟩)
  refine ChangesOnly.step (P := [.slots, .leftPanel, .rightPanel, .latchCount, .latchDue] ++ eventParts) ?_
    (State.latchTriggers_changes _) (by decide) (by decide)
  refine ChangesOnly.step ?_ (State.raiseIf_changes _ _ _) (List.Subset.refl _) (by decide)
  refine ChangesOnly.step ?_ (State.raiseIf_changes _ _ _) (List.Subset.refl _) (by decide)
  refine ChangesOnly.step ?_ (State.raiseIf_changes _ _ _) (List.Subset.refl _) (by decide)
  exact s.promote_changes.step (latched _ _ _ _ _) (by decide) (by decide)

theorem State.panelOn_changes (e : Eye) (s : State) :
    ChangesOnly ([.slots, .leftPanel, .rightPanel, .latchCount, .latchDue] ++ sensingParts) s (s.panelOn e) := by
  unfold State.panelOn; dsimp only; split
  · exact (s.setPanel_changes e _).step (State.frameLatch_changes _) (by decide) (by decide)
  · exact (s.setPanel_changes e _).mono (by decide)

theorem State.panelDown_changes (e : Eye) (s : State) : ChangesOnly [.leftPanel, .rightPanel] s (s.panelDown e) :=
  s.setPanel_changes e _

/-! ### The Sound Unit -/

theorem State.setPlayout_changes (k : Sink) (q : Playout) (s : State) : ChangesOnly [.queueA, .queueB] s (s.setPlayout k q) := by
  cases k <;> (intro p hp; cases p <;> first | exact absurd (by decide) hp | exact rfl | exact ⟨rfl, rfl⟩ | exact ⟨rfl, rfl, rfl⟩ | exact ⟨rfl, rfl, rfl, rfl⟩)

theorem State.takeSound_changes (k : Sink) (ps : List SoundPair) (s : State) :
    ChangesOnly [.queueA, .queueB, .raised, .notice] s (s.takeSound k ps).2 := by
  unfold State.takeSound; split
  · exact .refl _ s
  · exact (s.setPlayout_changes k _).step (State.raiseIf_changes _ _ _) (by decide) (by decide)

theorem State.outputTick_changes (s : State) :
    ChangesOnly [.queueA, .queueB, .ticks, .output, .raised, .notice] s s.outputTick := by
  unfold State.outputTick; dsimp only
  refine ChangesOnly.step (P := [.queueA, .queueB, .ticks, .output]) (t := { s with sound := _ }) ?_ (State.raiseIf_changes _ _ _)
    (by decide) (by decide)
  (intro p hp; cases p <;> first | exact absurd (by decide) hp | exact rfl | exact ⟨rfl, rfl⟩ | exact ⟨rfl, rfl, rfl⟩ | exact ⟨rfl, rfl, rfl, rfl⟩)

theorem State.slipCheck_changes (s : State) : ChangesOnly [.queueA, .queueB, .ticks] s (s.slipCheck) := by
  (intro p hp; cases p <;> first | exact absurd (by decide) hp | exact rfl | exact ⟨rfl, rfl⟩ | exact ⟨rfl, rfl, rfl⟩ | exact ⟨rfl, rfl, rfl, rfl⟩)

theorem State.emptyIfBarred_changes (s : State) : ChangesOnly [.queueA, .queueB] s s.emptyIfBarred := by
  unfold State.emptyIfBarred; split
  · (intro p hp; cases p <;> first | exact absurd (by decide) hp | exact rfl | exact ⟨rfl, rfl⟩ | exact ⟨rfl, rfl, rfl⟩ | exact ⟨rfl, rfl, rfl, rfl⟩)
  · exact .refl _ s

theorem State.startPrimed_changes (s : State) : ChangesOnly [.queueA, .queueB] s (s.startPrimed) := by
  (intro p hp; cases p <;> first | exact absurd (by decide) hp | exact rfl | exact ⟨rfl, rfl⟩ | exact ⟨rfl, rfl, rfl⟩ | exact ⟨rfl, rfl, rfl, rfl⟩)

theorem State.offerCapture_changes (e : CaptureEntry) (s : State) :
    ChangesOnly [.capture, .raised, .notice] s (s.offerCapture e) := by
  unfold State.offerCapture; split
  · (intro p hp; cases p <;> first | exact absurd (by decide) hp | exact rfl | exact ⟨rfl, rfl⟩ | exact ⟨rfl, rfl, rfl⟩ | exact ⟨rfl, rfl, rfl, rfl⟩)
  · refine ChangesOnly.step (P := [.capture]) (t := { s with sound := _ }) ?_ (State.raiseIf_changes _ _ _) (by decide) (by decide)
    (intro p hp; cases p <;> first | exact absurd (by decide) hp | exact rfl | exact ⟨rfl, rfl⟩ | exact ⟨rfl, rfl, rfl⟩ | exact ⟨rfl, rfl, rfl, rfl⟩)

theorem State.microphone_changes (raw : BitVec 16) (s : State) :
    ChangesOnly [.microphone, .capture, .raised, .notice] s (s.microphone raw) := by
  unfold State.microphone; dsimp only
  have h : ChangesOnly [.microphone] s { s with sound := { s.sound with mic := s.sound.mic.next } } := by
    (intro p hp; cases p <;> first | exact absurd (by decide) hp | exact rfl | exact ⟨rfl, rfl⟩ | exact ⟨rfl, rfl, rfl⟩ | exact ⟨rfl, rfl, rfl, rfl⟩)
  split
  · exact h.step (State.offerCapture_changes _ _) (by decide) (by decide)
  · exact h.mono (by decide)

theorem State.stopCapture_changes (s : State) : ChangesOnly [.capture] s (s.stopCapture) := by
  (intro p hp; cases p <;> first | exact absurd (by decide) hp | exact rfl | exact ⟨rfl, rfl⟩ | exact ⟨rfl, rfl, rfl⟩ | exact ⟨rfl, rfl, rfl, rfl⟩)

theorem State.stopCaptureIfEnded_changes (was : Bool) (s : State) : ChangesOnly [.capture] s (s.stopCaptureIfEnded was) := by
  unfold State.stopCaptureIfEnded; split
  · exact s.stopCapture_changes
  · exact .refl _ s

theorem State.buildVoice_changes {s t : State} {c : UpCell} (h : s.buildVoice = some (c, t)) : ChangesOnly [.capture] s t := by
  unfold State.buildVoice at h; split at h
  · cases h
  · split at h
    · obtain ⟨rfl, rfl⟩ := by simpa using h
      (intro p hp; cases p <;> first | exact absurd (by decide) hp | exact rfl | exact ⟨rfl, rfl⟩ | exact ⟨rfl, rfl, rfl⟩ | exact ⟨rfl, rfl, rfl, rfl⟩)
    · cases h

/-! ### The Power Unit -/

theorem State.setMarks_changes (s : State) : ChangesOnly [.marks, .raised, .notice] s s.setMarks := by
  unfold State.setMarks; dsimp only
  refine ChangesOnly.step (P := [.marks]) (t := { s with power := _ }) ?_ (State.raiseIf_changes _ _ _) (by decide) (by decide)
  (intro p hp; cases p <;> first | exact absurd (by decide) hp | exact rfl | exact ⟨rfl, rfl⟩ | exact ⟨rfl, rfl, rfl⟩ | exact ⟨rfl, rfl, rfl, rfl⟩)

theorem State.takePush_changes (a b : Bool) (s : State) : ChangesOnly pushParts s (s.takePush a b) := by
  unfold State.takePush; dsimp only
  have h : ChangesOnly pushParts s (s.followDemand.limitBrightness.emptyIfBarred.stopCaptureIfEnded b) :=
    ((s.followDemand_changes.step (State.limitBrightness_changes _) (R := pushParts) (by decide) (by decide)).step
      (State.emptyIfBarred_changes _) (List.Subset.refl _) (by decide)).step (State.stopCaptureIfEnded_changes _ _)
        (List.Subset.refl _) (by decide)
  split
  · exact h.step (State.forceStopFast_changes _) (List.Subset.refl _) (by decide)
  · exact h

/-- A change of the Power Unit's state, whatever it is, keeps every part outside its own and those that take its push. -/
theorem State.changePower_changes {P : List Part} (p : Power) (s : State) (h : ChangesOnly P s { s with power := p }) :
    ChangesOnly (P ++ pushParts) s (s.changePower p) :=
  h.step (State.takePush_changes _ _ _) (List.subset_append_left _ _) (List.subset_append_right _ _)

theorem State.settleAnswer_changes (s : State) : ChangesOnly [.answers, .deferred] s s.settleAnswer := by
  unfold State.settleAnswer; split
  · exact .refl _ s
  · (intro p hp; cases p <;> first | exact absurd (by decide) hp | exact rfl | exact ⟨rfl, rfl⟩ | exact ⟨rfl, rfl, rfl⟩ | exact ⟨rfl, rfl, rfl, rfl⟩)

theorem State.changeAtOnce_changes (t : Stance) (s : State) : ChangesOnly stanceParts s (s.changeAtOnce t) := by
  unfold State.changeAtOnce; dsimp only
  refine ChangesOnly.step (P := stanceParts) ?_ (State.settleAnswer_changes _) (List.Subset.refl _) (by decide)
  refine ChangesOnly.step (P := [.stance, .ramp, .limits] ++ pushParts) ?_ (State.raise_changes _ _) (by decide) (by decide)
  refine State.changePower_changes _ _ ?_
  (intro p hp; cases p <;> first | exact absurd (by decide) hp | exact rfl | exact ⟨rfl, rfl⟩ | exact ⟨rfl, rfl, rfl⟩ | exact ⟨rfl, rfl, rfl, rfl⟩)

theorem State.startRamp_changes (t : Stance) (s : State) : ChangesOnly stanceParts s (s.startRamp t) := by
  unfold State.startRamp; dsimp only
  refine ChangesOnly.mono (P := [.stance, .ramp] ++ pushParts) ?_ (by decide)
  refine State.changePower_changes _ _ ?_
  (intro p hp; cases p <;> first | exact absurd (by decide) hp | exact rfl | exact ⟨rfl, rfl⟩ | exact ⟨rfl, rfl, rfl⟩ | exact ⟨rfl, rfl, rfl, rfl⟩)

theorem State.evaluate_changes (s : State) : ChangesOnly stanceParts s s.evaluate := by
  unfold State.evaluate; dsimp only
  split
  · exact s.changeAtOnce_changes _
  · split
    · split
      · exact s.changeAtOnce_changes _
      · exact s.startRamp_changes _
    · exact .refl _ s

theorem State.rampStep_changes (r : Ramp) (s : State) : ChangesOnly stanceParts s (s.rampStep r) := by
  unfold State.rampStep; dsimp only
  have h : ∀ c f x, ChangesOnly stanceParts s (s.changePower { s.power with cap := c, floor := f, ramp := x }) := by
    intro c f x
    refine ChangesOnly.mono (P := [.ramp, .limits] ++ pushParts) ?_ (by decide)
    refine State.changePower_changes _ _ ?_
    (intro p hp; cases p <;> first | exact absurd (by decide) hp | exact rfl | exact ⟨rfl, rfl⟩ | exact ⟨rfl, rfl, rfl⟩ | exact ⟨rfl, rfl, rfl, rfl⟩)
  split
  · exact (h _ _ _).step (ChangesOnly.step (State.raise_changes _ _) (State.settleAnswer_changes _) (R := stanceParts) (by decide)
      (by decide)) (List.Subset.refl _) (List.Subset.refl _)
  · exact h _ _ _

theorem State.stanceCheck_changes (s : State) : ChangesOnly ([.checkDue, .marks] ++ stanceParts) s s.stanceCheck := by
  unfold State.stanceCheck; dsimp only
  have h : ChangesOnly [.checkDue] s { s with power := { s.power with checkDue := s.clock.now + 10000 } } := by
    (intro p hp; cases p <;> first | exact absurd (by decide) hp | exact rfl | exact ⟨rfl, rfl⟩ | exact ⟨rfl, rfl, rfl⟩ | exact ⟨rfl, rfl, rfl, rfl⟩)
  have k := h.step (State.setMarks_changes _) (R := [.checkDue, .marks] ++ stanceParts) (by decide) (by decide)
  split
  · split
    · exact k.step (State.rampStep_changes _ _) (List.Subset.refl _) (by decide)
    · exact k
  · exact k.step (State.evaluate_changes _) (List.Subset.refl _) (by decide)

/-! ### The upstream lane -/

theorem State.buildAnswer_changes {s t : State} {c : UpCell} (h : s.buildAnswer = some (c, t)) : ChangesOnly [.answers] s t := by
  unfold State.buildAnswer at h; split at h
  · cases h
  · obtain ⟨rfl, rfl⟩ := by simpa using h
    (intro p hp; cases p <;> first | exact absurd (by decide) hp | exact rfl | exact ⟨rfl, rfl⟩ | exact ⟨rfl, rfl, rfl⟩ | exact ⟨rfl, rfl, rfl, rfl⟩)

theorem State.buildNotice_changes {s t : State} {c : UpCell} (h : s.buildNotice = some (c, t)) : ChangesOnly [.notice] s t := by
  obtain ⟨rfl, rfl⟩ := by simpa [State.buildNotice] using h
  (intro p hp; cases p <;> first | exact absurd (by decide) hp | exact rfl | exact ⟨rfl, rfl⟩ | exact ⟨rfl, rfl, rfl⟩ | exact ⟨rfl, rfl, rfl, rfl⟩)

theorem State.sender_changes (x : Sender) (s : State) : ChangesOnly [.lastCyclic, .wire] s { s with sender := x } := by
  (intro p hp; cases p <;> first | exact absurd (by decide) hp | exact rfl | exact ⟨rfl, rfl⟩ | exact ⟨rfl, rfl, rfl⟩ | exact ⟨rfl, rfl, rfl, rfl⟩)

theorem State.grantCyclic_changes (c : CyclicClass) (s : State) :
    ChangesOnly [.capture, .answers, .notice, .lastCyclic, .wire] s (s.grantCyclic c) := by
  unfold State.grantCyclic; split
  · rename_i cell t ht
    refine ChangesOnly.step (P := [.capture, .answers, .notice]) ?_ (t.sender_changes _) (by decide) (by decide)
    cases c
    · exact (State.buildVoice_changes ht).mono (by decide)
    · exact (State.buildAnswer_changes ht).mono (by decide)
    · exact (State.buildNotice_changes ht).mono (by decide)
  · exact .refl _ s

theorem State.cellBoundary_changes (s : State) :
    ChangesOnly grantParts s s.cellBoundary := by
  unfold State.cellBoundary; split
  · unfold State.grant; split
    · split
      · rename_i t ht
        exact (State.buildMotion_changes ht).step (t.sender_changes _) (by decide) (by decide)
      · exact .refl _ s
    · split
      · exact (s.grantCyclic_changes _).mono (by decide)
      · exact (s.sender_changes _).mono (by decide)
  · exact (s.sender_changes _).mono (by decide)

/-! ### The link and the cells -/

theorem State.setLink_changes (l : Link) (s : State) : ChangesOnly [.link, .lane, .counters] s (s.setLink l) := by
  (intro p hp; cases p <;> first | exact absurd (by decide) hp | exact rfl | exact ⟨rfl, rfl⟩ | exact ⟨rfl, rfl, rfl⟩ | exact ⟨rfl, rfl, rfl, rfl⟩)

theorem State.enterLost_changes (s : State) : ChangesOnly lostParts s s.enterLost := by
  unfold State.enterLost; dsimp only
  refine ChangesOnly.step (P := lostParts) ?_ (State.abandonFilling_changes _) (List.Subset.refl _) (by decide)
  refine ChangesOnly.step (P := lostParts) ?_ (State.emptyIfBarred_changes _) (List.Subset.refl _) (by decide)
  refine ChangesOnly.step (P := [.link, .counters]) ?_ (State.blackOut_changes _) (by decide) (by decide)
  (intro p hp; cases p <;> first | exact absurd (by decide) hp | exact rfl | exact ⟨rfl, rfl⟩ | exact ⟨rfl, rfl, rfl⟩ | exact ⟨rfl, rfl, rfl, rfl⟩)

theorem State.firstBoundary_changes (s : State) : ChangesOnly grantParts s s.firstBoundary := by
  unfold State.firstBoundary; split
  · exact s.cellBoundary_changes
  · exact .refl _ s

theorem State.recover_changes (s : State) : ChangesOnly headerParts s s.recover := by
  unfold State.recover; dsimp only
  refine ChangesOnly.step (P := [.link, .counters, .raised, .notice]) ?_ (State.firstBoundary_changes _) (by decide) (by decide)
  refine ChangesOnly.step (P := [.link, .counters]) ?_ (State.raise_changes _ _) (by decide) (by decide)
  (intro p hp; cases p <;> first | exact absurd (by decide) hp | exact rfl | exact ⟨rfl, rfl⟩ | exact ⟨rfl, rfl, rfl⟩ | exact ⟨rfl, rfl, rfl, rfl⟩)

theorem State.goodHeader_changes (s : State) : ChangesOnly headerParts s s.goodHeader := by
  unfold State.goodHeader
  split
  · exact .refl _ s
  · split
    · refine ChangesOnly.step (P := [.link]) ?_ (State.firstBoundary_changes _) (by decide) (by decide)
      (intro p hp; cases p <;> first | exact absurd (by decide) hp | exact rfl | exact ⟨rfl, rfl⟩ | exact ⟨rfl, rfl, rfl⟩ | exact ⟨rfl, rfl, rfl, rfl⟩)
    · (intro p hp; cases p <;> first | exact absurd (by decide) hp | exact rfl | exact ⟨rfl, rfl⟩ | exact ⟨rfl, rfl, rfl⟩)
  · (intro p hp; cases p <;> first | exact absurd (by decide) hp | exact rfl | exact ⟨rfl, rfl⟩ | exact ⟨rfl, rfl, rfl⟩)
  · split
    · exact s.recover_changes
    · (intro p hp; cases p <;> first | exact absurd (by decide) hp | exact rfl | exact ⟨rfl, rfl⟩ | exact ⟨rfl, rfl, rfl⟩)

theorem State.badHeader_changes (s : State) : ChangesOnly lostParts s s.badHeader := by
  unfold State.badHeader
  split
  · exact .refl _ s
  · (intro p hp; cases p <;> first | exact absurd (by decide) hp | exact rfl | exact ⟨rfl, rfl⟩ | exact ⟨rfl, rfl, rfl⟩ | exact ⟨rfl, rfl, rfl, rfl⟩)
  · (intro p hp; cases p <;> first | exact absurd (by decide) hp | exact rfl | exact ⟨rfl, rfl⟩ | exact ⟨rfl, rfl, rfl⟩ | exact ⟨rfl, rfl, rfl, rfl⟩)
  · split
    · exact s.enterLost_changes
    · (intro p hp; cases p <;> first | exact absurd (by decide) hp | exact rfl | exact ⟨rfl, rfl⟩ | exact ⟨rfl, rfl, rfl⟩ | exact ⟨rfl, rfl, rfl, rfl⟩)

theorem State.discardCell_changes (d : Discard) (s : State) : ChangesOnly (lostParts ++ grantParts) s (s.discardCell d) := by
  unfold State.discardCell; dsimp only
  refine ChangesOnly.step (P := lostParts ++ grantParts) ?_ (State.raise_changes _ _) (List.Subset.refl _) (by decide)
  have c : ∀ (u : State) (x : LinkCounters), ChangesOnly [.counters] u (u.setLink { u.link with counters := x }) := by
    intro u x; (intro p hp; cases p <;> first | exact absurd (by decide) hp | exact rfl | exact ⟨rfl, rfl⟩ | exact ⟨rfl, rfl, rfl⟩ | exact ⟨rfl, rfl, rfl, rfl⟩)
  split
  · exact s.badHeader_changes.step (c _ _) (by decide) (by decide)
  · exact s.goodHeader_changes.step (c _ _) (by decide) (by decide)

theorem State.discardFramed_changes (b : List Byte) (s : State) : ChangesOnly (lostParts ++ grantParts) s (s.discardFramed b) := by
  unfold State.discardFramed; split
  · split
    · exact s.discardCell_changes _
    · exact .refl _ s
  · exact .refl _ s

theorem State.countCell_changes (st : Fin 32) (b : Bool) (s : State) : ChangesOnly [.streams] s (s.countCell st b) := by
  (intro p hp; cases p <;> first | exact absurd (by decide) hp | exact rfl | exact ⟨rfl, rfl⟩ | exact ⟨rfl, rfl, rfl⟩ | exact ⟨rfl, rfl, rfl, rfl⟩)

theorem State.handOn_changes (s : State) : ChangesOnly [.counters] s (s.handOn) := by
  (intro p hp; cases p <;> first | exact absurd (by decide) hp | exact rfl | exact ⟨rfl, rfl⟩ | exact ⟨rfl, rfl, rfl⟩ | exact ⟨rfl, rfl, rfl, rfl⟩)

/-- A cell that arrives changes the link's runs, the counters, and what its block changes. -/
theorem State.arrive_changes {P : List Part} (st : Fin 32) (admits : StreamEntry → Bool)
    (deliver : StreamEntry → State → Bool × State) (s : State) (h : ∀ e u, ChangesOnly P u (deliver e u).2) :
    ChangesOnly (headerParts ++ [.streams] ++ P) s (s.arrive st admits deliver) := by
  unfold State.arrive; dsimp only
  have k : ChangesOnly headerParts s s.goodHeader.handOn :=
    s.goodHeader_changes.step (State.handOn_changes _) (by decide) (by decide)
  split
  · refine ChangesOnly.step ?_ (State.countCell_changes _ _ _) (List.Subset.refl _) (List.subset_append_of_subset_left _ (by decide))
    exact k.step (h _ _) (List.subset_append_of_subset_left _ (by decide)) (List.subset_append_right _ _)
  · exact k.step (State.countCell_changes _ _ _) (List.subset_append_of_subset_left _ (by decide)) (List.subset_append_of_subset_left _ (by decide))

theorem State.takeAsk_changes (r : Request) (s : State) : ChangesOnly [.requests, .raised, .notice] s (s.takeAsk r).2 := by
  unfold State.takeAsk; split
  · (intro p hp; cases p <;> first | exact absurd (by decide) hp | exact rfl | exact ⟨rfl, rfl⟩ | exact ⟨rfl, rfl, rfl⟩ | exact ⟨rfl, rfl, rfl, rfl⟩)
  · exact (s.raise_changes _).mono (by decide)

theorem State.whenReceiving_changes {P : List Part} {f : State → State} (s : State) (h : ChangesOnly P s (f s)) :
    ChangesOnly P s (s.whenReceiving f) := by
  unfold State.whenReceiving; split
  · exact h
  · exact .refl _ s

/-! ### Management -/

/-- The service of a request changes the two queues and what a request that is carried out changes. -/
theorem State.serve_changes {P : List Part} (row : Instr) (act : Request → State → Verdict) (s : State)
    (hd : ∀ r u v t, act r u = .done v t → ChangesOnly P u t) (hf : ∀ r u t, act r u = .deferred t → ChangesOnly P u t) :
    ChangesOnly ([.requests, .answers, .deferred] ++ P) s (s.serve row act) := by
  unfold State.serve; split
  · exact .refl _ s
  · rename_i r rest _
    split
    · dsimp only
      have h : ChangesOnly [.requests] s { s with mgmt := { s.mgmt with requests := rest } } := by
        (intro p hp; cases p <;> first | exact absurd (by decide) hp | exact rfl | exact ⟨rfl, rfl⟩ | exact ⟨rfl, rfl, rfl⟩ | exact ⟨rfl, rfl, rfl, rfl⟩)
      generalize { s with mgmt := { s.mgmt with requests := rest } } = u at h ⊢
      have place : ∀ a, ChangesOnly ([.requests, .answers, .deferred] ++ P) s (u.placeAnswer a) := fun a =>
        h.step (u.placeAnswer_changes a) (List.subset_append_of_subset_left _ (by decide)) (List.subset_append_of_subset_left _ (by decide))
      unfold State.conclude
      split
      · exact place _
      · exact place _
      · rename_i v t hv
        have ht : ChangesOnly P u t := by
          unfold State.judgeRequest at hv; split at hv
          · exact hd _ _ _ _ hv
          · cases hv
        exact (h.step ht (R := [.requests, .answers, .deferred] ++ P) (List.subset_append_of_subset_left _ (by decide))
          (List.subset_append_right _ _)).step
          (t.placeAnswer_changes _) (List.Subset.refl _) (List.subset_append_of_subset_left _ (by decide))
      · rename_i t hv
        have ht : ChangesOnly P u t := by
          unfold State.judgeRequest at hv; split at hv
          · exact hf _ _ _ hv
          · cases hv
        refine (h.step ht (R := [.requests, .answers, .deferred] ++ P) (List.subset_append_of_subset_left _ (by decide))
          (List.subset_append_right _ _)).step (Q := [.deferred]) ?_
          (List.Subset.refl _) (List.subset_append_of_subset_left _ (by decide))
        (intro p hp; cases p <;> first | exact absurd (by decide) hp | exact rfl | exact ⟨rfl, rfl⟩ | exact ⟨rfl, rfl, rfl⟩ | exact ⟨rfl, rfl, rfl, rfl⟩)
    · exact .refl _ s

end Sys2Proof.Machine
end

