-- ==== Sys2Proof/Laws/State.lean ====
section
/-! SUPPORT. One lemma per field per named update of the state, so that no proof unfolds a record update. -/

namespace Sys2Proof.Machine

/-! ### setLink -/

@[simp] theorem State.setLink_pending (l : Link) (s : State) : (s.setLink l).pending = s.pending := rfl
@[simp] theorem State.setLink_clock (l : Link) (s : State) : (s.setLink l).clock = s.clock := rfl
@[simp] theorem State.setLink_cause (l : Link) (s : State) : (s.setLink l).cause = s.cause := rfl
@[simp] theorem State.setLink_streams (l : Link) (s : State) : (s.setLink l).streams = s.streams := rfl
@[simp] theorem State.setLink_mgmt (l : Link) (s : State) : (s.setLink l).mgmt = s.mgmt := rfl
@[simp] theorem State.setLink_events (l : Link) (s : State) : (s.setLink l).events = s.events := rfl
@[simp] theorem State.setLink_frames (l : Link) (s : State) : (s.setLink l).frames = s.frames := rfl
@[simp] theorem State.setLink_scanout (l : Link) (s : State) : (s.setLink l).scanout = s.scanout := rfl
@[simp] theorem State.setLink_sense (l : Link) (s : State) : (s.setLink l).sense = s.sense := rfl
@[simp] theorem State.setLink_report (l : Link) (s : State) : (s.setLink l).report = s.report := rfl
@[simp] theorem State.setLink_pose (l : Link) (s : State) : (s.setLink l).pose = s.pose := rfl
@[simp] theorem State.setLink_sound (l : Link) (s : State) : (s.setLink l).sound = s.sound := rfl
@[simp] theorem State.setLink_power (l : Link) (s : State) : (s.setLink l).power = s.power := rfl
@[simp] theorem State.setLink_sender (l : Link) (s : State) : (s.setLink l).sender = s.sender := rfl
@[simp] theorem State.setLink_link (l : Link) (s : State) : (s.setLink l).link = l := rfl

/-! ### raise -/

@[simp] theorem State.raise_pending (k : EventKind) (s : State) : (s.raise k).pending = s.pending := rfl
@[simp] theorem State.raise_clock (k : EventKind) (s : State) : (s.raise k).clock = s.clock := rfl
@[simp] theorem State.raise_link (k : EventKind) (s : State) : (s.raise k).link = s.link := rfl
@[simp] theorem State.raise_cause (k : EventKind) (s : State) : (s.raise k).cause = s.cause := rfl
@[simp] theorem State.raise_streams (k : EventKind) (s : State) : (s.raise k).streams = s.streams := rfl
@[simp] theorem State.raise_mgmt (k : EventKind) (s : State) : (s.raise k).mgmt = s.mgmt := rfl
@[simp] theorem State.raise_frames (k : EventKind) (s : State) : (s.raise k).frames = s.frames := rfl
@[simp] theorem State.raise_scanout (k : EventKind) (s : State) : (s.raise k).scanout = s.scanout := rfl
@[simp] theorem State.raise_sense (k : EventKind) (s : State) : (s.raise k).sense = s.sense := rfl
@[simp] theorem State.raise_report (k : EventKind) (s : State) : (s.raise k).report = s.report := rfl
@[simp] theorem State.raise_pose (k : EventKind) (s : State) : (s.raise k).pose = s.pose := rfl
@[simp] theorem State.raise_sound (k : EventKind) (s : State) : (s.raise k).sound = s.sound := rfl
@[simp] theorem State.raise_power (k : EventKind) (s : State) : (s.raise k).power = s.power := rfl
@[simp] theorem State.raise_sender (k : EventKind) (s : State) : (s.raise k).sender = s.sender := rfl
@[simp] theorem State.raise_events_enabled (k : EventKind) (s : State) : (s.raise k).events.enabled = s.events.enabled :=
  rfl
@[simp] theorem State.raise_events_gateOpen (k : EventKind) (s : State) : (s.raise k).events.gateOpen = s.events.gateOpen :=
  rfl
@[simp] theorem State.raise_events_lock (k : EventKind) (s : State) : (s.raise k).events.lock = s.events.lock := rfl
@[simp] theorem State.raise_raised (k : EventKind) (s : State) : (s.raise k).events.raised = s.events.raised ||| k.mark :=
  rfl

/-! ### raiseIf -/

@[simp] theorem State.raiseIf_pending (b : Bool) (k : EventKind) (s : State) : (s.raiseIf b k).pending = s.pending :=
  by cases b <;> rfl
@[simp] theorem State.raiseIf_clock (b : Bool) (k : EventKind) (s : State) : (s.raiseIf b k).clock = s.clock :=
  by cases b <;> rfl
@[simp] theorem State.raiseIf_link (b : Bool) (k : EventKind) (s : State) : (s.raiseIf b k).link = s.link :=
  by cases b <;> rfl
@[simp] theorem State.raiseIf_cause (b : Bool) (k : EventKind) (s : State) : (s.raiseIf b k).cause = s.cause :=
  by cases b <;> rfl
@[simp] theorem State.raiseIf_streams (b : Bool) (k : EventKind) (s : State) : (s.raiseIf b k).streams = s.streams :=
  by cases b <;> rfl
@[simp] theorem State.raiseIf_mgmt (b : Bool) (k : EventKind) (s : State) : (s.raiseIf b k).mgmt = s.mgmt :=
  by cases b <;> rfl
@[simp] theorem State.raiseIf_frames (b : Bool) (k : EventKind) (s : State) : (s.raiseIf b k).frames = s.frames :=
  by cases b <;> rfl
@[simp] theorem State.raiseIf_scanout (b : Bool) (k : EventKind) (s : State) : (s.raiseIf b k).scanout = s.scanout :=
  by cases b <;> rfl
@[simp] theorem State.raiseIf_sense (b : Bool) (k : EventKind) (s : State) : (s.raiseIf b k).sense = s.sense :=
  by cases b <;> rfl
@[simp] theorem State.raiseIf_report (b : Bool) (k : EventKind) (s : State) : (s.raiseIf b k).report = s.report :=
  by cases b <;> rfl
@[simp] theorem State.raiseIf_pose (b : Bool) (k : EventKind) (s : State) : (s.raiseIf b k).pose = s.pose :=
  by cases b <;> rfl
@[simp] theorem State.raiseIf_sound (b : Bool) (k : EventKind) (s : State) : (s.raiseIf b k).sound = s.sound :=
  by cases b <;> rfl
@[simp] theorem State.raiseIf_power (b : Bool) (k : EventKind) (s : State) : (s.raiseIf b k).power = s.power :=
  by cases b <;> rfl
@[simp] theorem State.raiseIf_sender (b : Bool) (k : EventKind) (s : State) : (s.raiseIf b k).sender = s.sender :=
  by cases b <;> rfl
@[simp] theorem State.raiseIf_events_enabled (b : Bool) (k : EventKind) (s : State) : (s.raiseIf b k).events.enabled = s.events.enabled :=
  by cases b <;> rfl
@[simp] theorem State.raiseIf_events_gateOpen (b : Bool) (k : EventKind) (s : State) : (s.raiseIf b k).events.gateOpen = s.events.gateOpen :=
  by cases b <;> rfl
@[simp] theorem State.raiseIf_events_lock (b : Bool) (k : EventKind) (s : State) : (s.raiseIf b k).events.lock = s.events.lock :=
  by cases b <;> rfl

/-! ### setSlot -/

@[simp] theorem State.setSlot_pending (i : Fin 3) (f : FrameSlot) (s : State) : (s.setSlot i f).pending = s.pending :=
  rfl
@[simp] theorem State.setSlot_clock (i : Fin 3) (f : FrameSlot) (s : State) : (s.setSlot i f).clock = s.clock := rfl
@[simp] theorem State.setSlot_link (i : Fin 3) (f : FrameSlot) (s : State) : (s.setSlot i f).link = s.link := rfl
@[simp] theorem State.setSlot_cause (i : Fin 3) (f : FrameSlot) (s : State) : (s.setSlot i f).cause = s.cause := rfl
@[simp] theorem State.setSlot_streams (i : Fin 3) (f : FrameSlot) (s : State) : (s.setSlot i f).streams = s.streams :=
  rfl
@[simp] theorem State.setSlot_mgmt (i : Fin 3) (f : FrameSlot) (s : State) : (s.setSlot i f).mgmt = s.mgmt := rfl
@[simp] theorem State.setSlot_events (i : Fin 3) (f : FrameSlot) (s : State) : (s.setSlot i f).events = s.events :=
  rfl
@[simp] theorem State.setSlot_scanout (i : Fin 3) (f : FrameSlot) (s : State) : (s.setSlot i f).scanout = s.scanout :=
  rfl
@[simp] theorem State.setSlot_sense (i : Fin 3) (f : FrameSlot) (s : State) : (s.setSlot i f).sense = s.sense := rfl
@[simp] theorem State.setSlot_report (i : Fin 3) (f : FrameSlot) (s : State) : (s.setSlot i f).report = s.report :=
  rfl
@[simp] theorem State.setSlot_pose (i : Fin 3) (f : FrameSlot) (s : State) : (s.setSlot i f).pose = s.pose := rfl
@[simp] theorem State.setSlot_sound (i : Fin 3) (f : FrameSlot) (s : State) : (s.setSlot i f).sound = s.sound := rfl
@[simp] theorem State.setSlot_power (i : Fin 3) (f : FrameSlot) (s : State) : (s.setSlot i f).power = s.power := rfl
@[simp] theorem State.setSlot_sender (i : Fin 3) (f : FrameSlot) (s : State) : (s.setSlot i f).sender = s.sender :=
  rfl
@[simp] theorem State.setSlot_frames_writes (i : Fin 3) (f : FrameSlot) (s : State) : (s.setSlot i f).frames.writes = s.frames.writes :=
  rfl
@[simp] theorem State.setSlot_frames_superseded (i : Fin 3) (f : FrameSlot) (s : State) : (s.setSlot i f).frames.superseded = s.frames.superseded :=
  rfl
@[simp] theorem State.setSlot_frames_dram (i : Fin 3) (f : FrameSlot) (s : State) : (s.setSlot i f).frames.dram = s.frames.dram :=
  rfl
@[simp] theorem State.setSlot_slots (i : Fin 3) (f : FrameSlot) (s : State) :
    (s.setSlot i f).frames.slots = s.frames.slots.set i.val f := rfl

/-! ### setPanel -/

@[simp] theorem State.setPanel_pending (e : Eye) (p : Panel) (s : State) : (s.setPanel e p).pending = s.pending :=
  by cases e <;> rfl
@[simp] theorem State.setPanel_clock (e : Eye) (p : Panel) (s : State) : (s.setPanel e p).clock = s.clock :=
  by cases e <;> rfl
@[simp] theorem State.setPanel_link (e : Eye) (p : Panel) (s : State) : (s.setPanel e p).link = s.link :=
  by cases e <;> rfl
@[simp] theorem State.setPanel_cause (e : Eye) (p : Panel) (s : State) : (s.setPanel e p).cause = s.cause :=
  by cases e <;> rfl
@[simp] theorem State.setPanel_streams (e : Eye) (p : Panel) (s : State) : (s.setPanel e p).streams = s.streams :=
  by cases e <;> rfl
@[simp] theorem State.setPanel_mgmt (e : Eye) (p : Panel) (s : State) : (s.setPanel e p).mgmt = s.mgmt :=
  by cases e <;> rfl
@[simp] theorem State.setPanel_events (e : Eye) (p : Panel) (s : State) : (s.setPanel e p).events = s.events :=
  by cases e <;> rfl
@[simp] theorem State.setPanel_frames (e : Eye) (p : Panel) (s : State) : (s.setPanel e p).frames = s.frames :=
  by cases e <;> rfl
@[simp] theorem State.setPanel_sense (e : Eye) (p : Panel) (s : State) : (s.setPanel e p).sense = s.sense :=
  by cases e <;> rfl
@[simp] theorem State.setPanel_report (e : Eye) (p : Panel) (s : State) : (s.setPanel e p).report = s.report :=
  by cases e <;> rfl
@[simp] theorem State.setPanel_pose (e : Eye) (p : Panel) (s : State) : (s.setPanel e p).pose = s.pose :=
  by cases e <;> rfl
@[simp] theorem State.setPanel_sound (e : Eye) (p : Panel) (s : State) : (s.setPanel e p).sound = s.sound :=
  by cases e <;> rfl
@[simp] theorem State.setPanel_power (e : Eye) (p : Panel) (s : State) : (s.setPanel e p).power = s.power :=
  by cases e <;> rfl
@[simp] theorem State.setPanel_sender (e : Eye) (p : Panel) (s : State) : (s.setPanel e p).sender = s.sender :=
  by cases e <;> rfl
@[simp] theorem State.setPanel_scanout_enable (e : Eye) (p : Panel) (s : State) : (s.setPanel e p).scanout.enable = s.scanout.enable :=
  by cases e <;> rfl
@[simp] theorem State.setPanel_scanout_refresh (e : Eye) (p : Panel) (s : State) : (s.setPanel e p).scanout.refresh = s.scanout.refresh :=
  by cases e <;> rfl
@[simp] theorem State.setPanel_scanout_latchCount (e : Eye) (p : Panel) (s : State) : (s.setPanel e p).scanout.latchCount = s.scanout.latchCount :=
  by cases e <;> rfl
@[simp] theorem State.setPanel_scanout_latchDue (e : Eye) (p : Panel) (s : State) : (s.setPanel e p).scanout.latchDue = s.scanout.latchDue :=
  by cases e <;> rfl
@[simp] theorem State.panel_setPanel (e : Eye) (p : Panel) (s : State) : (s.setPanel e p).panel e = p :=
  by cases e <;> rfl
theorem State.panel_setPanel_of_ne {d e : Eye} (h : d ≠ e) (p : Panel) (s : State) : (s.setPanel e p).panel d = s.panel d := by
  cases d <;> cases e <;> first | rfl | exact absurd rfl h

/-! ### setGroup -/

@[simp] theorem State.setGroup_pending (g : ScanGroup) (x : Group) (s : State) : (s.setGroup g x).pending = s.pending :=
  by cases g <;> rfl
@[simp] theorem State.setGroup_clock (g : ScanGroup) (x : Group) (s : State) : (s.setGroup g x).clock = s.clock :=
  by cases g <;> rfl
@[simp] theorem State.setGroup_link (g : ScanGroup) (x : Group) (s : State) : (s.setGroup g x).link = s.link :=
  by cases g <;> rfl
@[simp] theorem State.setGroup_cause (g : ScanGroup) (x : Group) (s : State) : (s.setGroup g x).cause = s.cause :=
  by cases g <;> rfl
@[simp] theorem State.setGroup_streams (g : ScanGroup) (x : Group) (s : State) : (s.setGroup g x).streams = s.streams :=
  by cases g <;> rfl
@[simp] theorem State.setGroup_mgmt (g : ScanGroup) (x : Group) (s : State) : (s.setGroup g x).mgmt = s.mgmt :=
  by cases g <;> rfl
@[simp] theorem State.setGroup_events (g : ScanGroup) (x : Group) (s : State) : (s.setGroup g x).events = s.events :=
  by cases g <;> rfl
@[simp] theorem State.setGroup_frames (g : ScanGroup) (x : Group) (s : State) : (s.setGroup g x).frames = s.frames :=
  by cases g <;> rfl
@[simp] theorem State.setGroup_scanout (g : ScanGroup) (x : Group) (s : State) : (s.setGroup g x).scanout = s.scanout :=
  by cases g <;> rfl
@[simp] theorem State.setGroup_report (g : ScanGroup) (x : Group) (s : State) : (s.setGroup g x).report = s.report :=
  by cases g <;> rfl
@[simp] theorem State.setGroup_pose (g : ScanGroup) (x : Group) (s : State) : (s.setGroup g x).pose = s.pose :=
  by cases g <;> rfl
@[simp] theorem State.setGroup_sound (g : ScanGroup) (x : Group) (s : State) : (s.setGroup g x).sound = s.sound :=
  by cases g <;> rfl
@[simp] theorem State.setGroup_power (g : ScanGroup) (x : Group) (s : State) : (s.setGroup g x).power = s.power :=
  by cases g <;> rfl
@[simp] theorem State.setGroup_sender (g : ScanGroup) (x : Group) (s : State) : (s.setGroup g x).sender = s.sender :=
  by cases g <;> rfl
@[simp] theorem State.setGroup_sense_channels (g : ScanGroup) (x : Group) (s : State) : (s.setGroup g x).sense.channels = s.sense.channels :=
  by cases g <;> rfl
@[simp] theorem State.setGroup_sense_samples (g : ScanGroup) (x : Group) (s : State) : (s.setGroup g x).sense.samples = s.sense.samples :=
  by cases g <;> rfl
@[simp] theorem State.setGroup_sense_port (g : ScanGroup) (x : Group) (s : State) : (s.setGroup g x).sense.port = s.sense.port :=
  by cases g <;> rfl
@[simp] theorem State.setGroup_sense_converter (g : ScanGroup) (x : Group) (s : State) : (s.setGroup g x).sense.converter = s.sense.converter :=
  by cases g <;> rfl
@[simp] theorem State.setGroup_sense_snapshot (g : ScanGroup) (x : Group) (s : State) : (s.setGroup g x).sense.snapshot = s.sense.snapshot :=
  by cases g <;> rfl
@[simp] theorem State.group_setGroup (g : ScanGroup) (x : Group) (s : State) : (s.setGroup g x).group g = x :=
  by cases g <;> rfl
theorem State.group_setGroup_of_ne {g h : ScanGroup} (hne : h ≠ g) (x : Group) (s : State) :
    (s.setGroup g x).group h = s.group h := by
  cases g <;> cases h <;> first | rfl | exact absurd rfl hne

/-! ### setSample -/

@[simp] theorem State.setSample_pending (k : Fin 16) (x : SampleState) (s : State) : (s.setSample k x).pending = s.pending :=
  rfl
@[simp] theorem State.setSample_clock (k : Fin 16) (x : SampleState) (s : State) : (s.setSample k x).clock = s.clock :=
  rfl
@[simp] theorem State.setSample_link (k : Fin 16) (x : SampleState) (s : State) : (s.setSample k x).link = s.link :=
  rfl
@[simp] theorem State.setSample_cause (k : Fin 16) (x : SampleState) (s : State) : (s.setSample k x).cause = s.cause :=
  rfl
@[simp] theorem State.setSample_streams (k : Fin 16) (x : SampleState) (s : State) : (s.setSample k x).streams = s.streams :=
  rfl
@[simp] theorem State.setSample_mgmt (k : Fin 16) (x : SampleState) (s : State) : (s.setSample k x).mgmt = s.mgmt :=
  rfl
@[simp] theorem State.setSample_events (k : Fin 16) (x : SampleState) (s : State) : (s.setSample k x).events = s.events :=
  rfl
@[simp] theorem State.setSample_frames (k : Fin 16) (x : SampleState) (s : State) : (s.setSample k x).frames = s.frames :=
  rfl
@[simp] theorem State.setSample_scanout (k : Fin 16) (x : SampleState) (s : State) : (s.setSample k x).scanout = s.scanout :=
  rfl
@[simp] theorem State.setSample_report (k : Fin 16) (x : SampleState) (s : State) : (s.setSample k x).report = s.report :=
  rfl
@[simp] theorem State.setSample_pose (k : Fin 16) (x : SampleState) (s : State) : (s.setSample k x).pose = s.pose :=
  rfl
@[simp] theorem State.setSample_sound (k : Fin 16) (x : SampleState) (s : State) : (s.setSample k x).sound = s.sound :=
  rfl
@[simp] theorem State.setSample_power (k : Fin 16) (x : SampleState) (s : State) : (s.setSample k x).power = s.power :=
  rfl
@[simp] theorem State.setSample_sender (k : Fin 16) (x : SampleState) (s : State) : (s.setSample k x).sender = s.sender :=
  rfl
@[simp] theorem State.setSample_sense_channels (k : Fin 16) (x : SampleState) (s : State) : (s.setSample k x).sense.channels = s.sense.channels :=
  rfl
@[simp] theorem State.setSample_sense_fast (k : Fin 16) (x : SampleState) (s : State) : (s.setSample k x).sense.fast = s.sense.fast :=
  rfl
@[simp] theorem State.setSample_sense_slow (k : Fin 16) (x : SampleState) (s : State) : (s.setSample k x).sense.slow = s.sense.slow :=
  rfl
@[simp] theorem State.setSample_sense_port (k : Fin 16) (x : SampleState) (s : State) : (s.setSample k x).sense.port = s.sense.port :=
  rfl
@[simp] theorem State.setSample_sense_converter (k : Fin 16) (x : SampleState) (s : State) : (s.setSample k x).sense.converter = s.sense.converter :=
  rfl
@[simp] theorem State.setSample_sense_snapshot (k : Fin 16) (x : SampleState) (s : State) : (s.setSample k x).sense.snapshot = s.sense.snapshot :=
  rfl
@[simp] theorem State.setSample_samples (k : Fin 16) (x : SampleState) (s : State) :
    (s.setSample k x).sense.samples = s.sense.samples.set k.val x := rfl

/-! ### setPlayout -/

@[simp] theorem State.setPlayout_pending (k : Sink) (q : Playout) (s : State) : (s.setPlayout k q).pending = s.pending :=
  by cases k <;> rfl
@[simp] theorem State.setPlayout_clock (k : Sink) (q : Playout) (s : State) : (s.setPlayout k q).clock = s.clock :=
  by cases k <;> rfl
@[simp] theorem State.setPlayout_link (k : Sink) (q : Playout) (s : State) : (s.setPlayout k q).link = s.link :=
  by cases k <;> rfl
@[simp] theorem State.setPlayout_cause (k : Sink) (q : Playout) (s : State) : (s.setPlayout k q).cause = s.cause :=
  by cases k <;> rfl
@[simp] theorem State.setPlayout_streams (k : Sink) (q : Playout) (s : State) : (s.setPlayout k q).streams = s.streams :=
  by cases k <;> rfl
@[simp] theorem State.setPlayout_mgmt (k : Sink) (q : Playout) (s : State) : (s.setPlayout k q).mgmt = s.mgmt :=
  by cases k <;> rfl
@[simp] theorem State.setPlayout_events (k : Sink) (q : Playout) (s : State) : (s.setPlayout k q).events = s.events :=
  by cases k <;> rfl
@[simp] theorem State.setPlayout_frames (k : Sink) (q : Playout) (s : State) : (s.setPlayout k q).frames = s.frames :=
  by cases k <;> rfl
@[simp] theorem State.setPlayout_scanout (k : Sink) (q : Playout) (s : State) : (s.setPlayout k q).scanout = s.scanout :=
  by cases k <;> rfl
@[simp] theorem State.setPlayout_sense (k : Sink) (q : Playout) (s : State) : (s.setPlayout k q).sense = s.sense :=
  by cases k <;> rfl
@[simp] theorem State.setPlayout_report (k : Sink) (q : Playout) (s : State) : (s.setPlayout k q).report = s.report :=
  by cases k <;> rfl
@[simp] theorem State.setPlayout_pose (k : Sink) (q : Playout) (s : State) : (s.setPlayout k q).pose = s.pose :=
  by cases k <;> rfl
@[simp] theorem State.setPlayout_power (k : Sink) (q : Playout) (s : State) : (s.setPlayout k q).power = s.power :=
  by cases k <;> rfl
@[simp] theorem State.setPlayout_sender (k : Sink) (q : Playout) (s : State) : (s.setPlayout k q).sender = s.sender :=
  by cases k <;> rfl
@[simp] theorem State.setPlayout_sound_audio (k : Sink) (q : Playout) (s : State) : (s.setPlayout k q).sound.audio = s.sound.audio :=
  by cases k <;> rfl
@[simp] theorem State.setPlayout_sound_tickCount (k : Sink) (q : Playout) (s : State) : (s.setPlayout k q).sound.tickCount = s.sound.tickCount :=
  by cases k <;> rfl
@[simp] theorem State.setPlayout_sound_slipDue (k : Sink) (q : Playout) (s : State) : (s.setPlayout k q).sound.slipDue = s.sound.slipDue :=
  by cases k <;> rfl
@[simp] theorem State.setPlayout_sound_tick (k : Sink) (q : Playout) (s : State) : (s.setPlayout k q).sound.tick = s.sound.tick :=
  by cases k <;> rfl
@[simp] theorem State.setPlayout_sound_mic (k : Sink) (q : Playout) (s : State) : (s.setPlayout k q).sound.mic = s.sound.mic :=
  by cases k <;> rfl
@[simp] theorem State.setPlayout_sound_capture (k : Sink) (q : Playout) (s : State) : (s.setPlayout k q).sound.capture = s.sound.capture :=
  by cases k <;> rfl
@[simp] theorem State.setPlayout_sound_captureGap (k : Sink) (q : Playout) (s : State) : (s.setPlayout k q).sound.captureGap = s.sound.captureGap :=
  by cases k <;> rfl
@[simp] theorem State.setPlayout_sound_captureFilling (k : Sink) (q : Playout) (s : State) : (s.setPlayout k q).sound.captureFilling = s.sound.captureFilling :=
  by cases k <;> rfl
@[simp] theorem State.setPlayout_sound_output (k : Sink) (q : Playout) (s : State) : (s.setPlayout k q).sound.output = s.sound.output :=
  by cases k <;> rfl
@[simp] theorem State.playout_setPlayout (k : Sink) (q : Playout) (s : State) : (s.setPlayout k q).playout k = q :=
  by cases k <;> rfl
theorem State.playout_setPlayout_of_ne {j k : Sink} (h : j ≠ k) (q : Playout) (s : State) :
    (s.setPlayout k q).playout j = s.playout j := by
  cases j <;> cases k <;> first | rfl | exact absurd rfl h

/-! ### placeAnswer -/

@[simp] theorem State.placeAnswer_pending (a : Answer) (s : State) : (s.placeAnswer a).pending = s.pending := rfl
@[simp] theorem State.placeAnswer_clock (a : Answer) (s : State) : (s.placeAnswer a).clock = s.clock := rfl
@[simp] theorem State.placeAnswer_link (a : Answer) (s : State) : (s.placeAnswer a).link = s.link := rfl
@[simp] theorem State.placeAnswer_cause (a : Answer) (s : State) : (s.placeAnswer a).cause = s.cause := rfl
@[simp] theorem State.placeAnswer_streams (a : Answer) (s : State) : (s.placeAnswer a).streams = s.streams := rfl
@[simp] theorem State.placeAnswer_events (a : Answer) (s : State) : (s.placeAnswer a).events = s.events := rfl
@[simp] theorem State.placeAnswer_frames (a : Answer) (s : State) : (s.placeAnswer a).frames = s.frames := rfl
@[simp] theorem State.placeAnswer_scanout (a : Answer) (s : State) : (s.placeAnswer a).scanout = s.scanout := rfl
@[simp] theorem State.placeAnswer_sense (a : Answer) (s : State) : (s.placeAnswer a).sense = s.sense := rfl
@[simp] theorem State.placeAnswer_report (a : Answer) (s : State) : (s.placeAnswer a).report = s.report := rfl
@[simp] theorem State.placeAnswer_pose (a : Answer) (s : State) : (s.placeAnswer a).pose = s.pose := rfl
@[simp] theorem State.placeAnswer_sound (a : Answer) (s : State) : (s.placeAnswer a).sound = s.sound := rfl
@[simp] theorem State.placeAnswer_power (a : Answer) (s : State) : (s.placeAnswer a).power = s.power := rfl
@[simp] theorem State.placeAnswer_sender (a : Answer) (s : State) : (s.placeAnswer a).sender = s.sender := rfl
@[simp] theorem State.placeAnswer_mgmt_requests (a : Answer) (s : State) : (s.placeAnswer a).mgmt.requests = s.mgmt.requests :=
  rfl
@[simp] theorem State.placeAnswer_mgmt_deferred (a : Answer) (s : State) : (s.placeAnswer a).mgmt.deferred = s.mgmt.deferred :=
  rfl
@[simp] theorem State.placeAnswer_answers (a : Answer) (s : State) :
    (s.placeAnswer a).mgmt.answers = s.mgmt.answers ++ [a] := rfl

/-! ### handOn -/

@[simp] theorem State.handOn_pending (s : State) : (s.handOn).pending = s.pending := rfl
@[simp] theorem State.handOn_clock (s : State) : (s.handOn).clock = s.clock := rfl
@[simp] theorem State.handOn_cause (s : State) : (s.handOn).cause = s.cause := rfl
@[simp] theorem State.handOn_streams (s : State) : (s.handOn).streams = s.streams := rfl
@[simp] theorem State.handOn_mgmt (s : State) : (s.handOn).mgmt = s.mgmt := rfl
@[simp] theorem State.handOn_events (s : State) : (s.handOn).events = s.events := rfl
@[simp] theorem State.handOn_frames (s : State) : (s.handOn).frames = s.frames := rfl
@[simp] theorem State.handOn_scanout (s : State) : (s.handOn).scanout = s.scanout := rfl
@[simp] theorem State.handOn_sense (s : State) : (s.handOn).sense = s.sense := rfl
@[simp] theorem State.handOn_report (s : State) : (s.handOn).report = s.report := rfl
@[simp] theorem State.handOn_pose (s : State) : (s.handOn).pose = s.pose := rfl
@[simp] theorem State.handOn_sound (s : State) : (s.handOn).sound = s.sound := rfl
@[simp] theorem State.handOn_power (s : State) : (s.handOn).power = s.power := rfl
@[simp] theorem State.handOn_sender (s : State) : (s.handOn).sender = s.sender := rfl
@[simp] theorem State.handOn_link_state (s : State) : (s.handOn).link.state = s.link.state := rfl
@[simp] theorem State.handOn_link_goodRun (s : State) : (s.handOn).link.goodRun = s.link.goodRun := rfl
@[simp] theorem State.handOn_link_badRun (s : State) : (s.handOn).link.badRun = s.link.badRun := rfl
@[simp] theorem State.handOn_link_clockPresent (s : State) : (s.handOn).link.clockPresent = s.link.clockPresent := rfl
@[simp] theorem State.handOn_link_clockLoss (s : State) : (s.handOn).link.clockLoss = s.link.clockLoss := rfl
@[simp] theorem State.handOn_link_hold (s : State) : (s.handOn).link.hold = s.link.hold := rfl
@[simp] theorem State.handOn_handedOn (s : State) :
    s.handOn.link.counters.handedOn = s.link.counters.handedOn + 1 := rfl

/-! ### countCell -/

@[simp] theorem State.countCell_pending (i : Fin 32) (taken : Bool) (s : State) : (s.countCell i taken).pending = s.pending :=
  rfl
@[simp] theorem State.countCell_clock (i : Fin 32) (taken : Bool) (s : State) : (s.countCell i taken).clock = s.clock :=
  rfl
@[simp] theorem State.countCell_link (i : Fin 32) (taken : Bool) (s : State) : (s.countCell i taken).link = s.link :=
  rfl
@[simp] theorem State.countCell_cause (i : Fin 32) (taken : Bool) (s : State) : (s.countCell i taken).cause = s.cause :=
  rfl
@[simp] theorem State.countCell_mgmt (i : Fin 32) (taken : Bool) (s : State) : (s.countCell i taken).mgmt = s.mgmt :=
  rfl
@[simp] theorem State.countCell_events (i : Fin 32) (taken : Bool) (s : State) : (s.countCell i taken).events = s.events :=
  rfl
@[simp] theorem State.countCell_frames (i : Fin 32) (taken : Bool) (s : State) : (s.countCell i taken).frames = s.frames :=
  rfl
@[simp] theorem State.countCell_scanout (i : Fin 32) (taken : Bool) (s : State) : (s.countCell i taken).scanout = s.scanout :=
  rfl
@[simp] theorem State.countCell_sense (i : Fin 32) (taken : Bool) (s : State) : (s.countCell i taken).sense = s.sense :=
  rfl
@[simp] theorem State.countCell_report (i : Fin 32) (taken : Bool) (s : State) : (s.countCell i taken).report = s.report :=
  rfl
@[simp] theorem State.countCell_pose (i : Fin 32) (taken : Bool) (s : State) : (s.countCell i taken).pose = s.pose :=
  rfl
@[simp] theorem State.countCell_sound (i : Fin 32) (taken : Bool) (s : State) : (s.countCell i taken).sound = s.sound :=
  rfl
@[simp] theorem State.countCell_power (i : Fin 32) (taken : Bool) (s : State) : (s.countCell i taken).power = s.power :=
  rfl
@[simp] theorem State.countCell_sender (i : Fin 32) (taken : Bool) (s : State) : (s.countCell i taken).sender = s.sender :=
  rfl

/-! ### elapse -/

@[simp] theorem State.elapse_pending (d : Nat) (s : State) : (s.elapse d).pending = s.pending := rfl
@[simp] theorem State.elapse_cause (d : Nat) (s : State) : (s.elapse d).cause = s.cause := rfl
@[simp] theorem State.elapse_streams (d : Nat) (s : State) : (s.elapse d).streams = s.streams := rfl
@[simp] theorem State.elapse_mgmt (d : Nat) (s : State) : (s.elapse d).mgmt = s.mgmt := rfl
@[simp] theorem State.elapse_events (d : Nat) (s : State) : (s.elapse d).events = s.events := rfl
@[simp] theorem State.elapse_frames (d : Nat) (s : State) : (s.elapse d).frames = s.frames := rfl
@[simp] theorem State.elapse_scanout (d : Nat) (s : State) : (s.elapse d).scanout = s.scanout := rfl
@[simp] theorem State.elapse_sense (d : Nat) (s : State) : (s.elapse d).sense = s.sense := rfl
@[simp] theorem State.elapse_report (d : Nat) (s : State) : (s.elapse d).report = s.report := rfl
@[simp] theorem State.elapse_pose (d : Nat) (s : State) : (s.elapse d).pose = s.pose := rfl
@[simp] theorem State.elapse_sound (d : Nat) (s : State) : (s.elapse d).sound = s.sound := rfl
@[simp] theorem State.elapse_power (d : Nat) (s : State) : (s.elapse d).power = s.power := rfl
@[simp] theorem State.elapse_sender (d : Nat) (s : State) : (s.elapse d).sender = s.sender := rfl
@[simp] theorem State.elapse_clock_source (d : Nat) (s : State) : (s.elapse d).clock.source = s.clock.source := rfl
@[simp] theorem State.elapse_clock_crystalPresent (d : Nat) (s : State) : (s.elapse d).clock.crystalPresent = s.clock.crystalPresent :=
  rfl
@[simp] theorem State.elapse_link_state (d : Nat) (s : State) : (s.elapse d).link.state = s.link.state := rfl
@[simp] theorem State.elapse_link_goodRun (d : Nat) (s : State) : (s.elapse d).link.goodRun = s.link.goodRun := rfl
@[simp] theorem State.elapse_link_badRun (d : Nat) (s : State) : (s.elapse d).link.badRun = s.link.badRun := rfl
@[simp] theorem State.elapse_link_clockPresent (d : Nat) (s : State) : (s.elapse d).link.clockPresent = s.link.clockPresent :=
  rfl
@[simp] theorem State.elapse_link_hold (d : Nat) (s : State) : (s.elapse d).link.hold = s.link.hold := rfl
@[simp] theorem State.elapse_link_counters (d : Nat) (s : State) : (s.elapse d).link.counters = s.link.counters := rfl

/-! ### runTo -/

@[simp] theorem State.runTo_pending (d : Time) (s : State) : (s.runTo d).pending = s.pending :=
  by unfold State.runTo; split <;> rfl
@[simp] theorem State.runTo_cause (d : Time) (s : State) : (s.runTo d).cause = s.cause :=
  by unfold State.runTo; split <;> rfl
@[simp] theorem State.runTo_streams (d : Time) (s : State) : (s.runTo d).streams = s.streams :=
  by unfold State.runTo; split <;> rfl
@[simp] theorem State.runTo_mgmt (d : Time) (s : State) : (s.runTo d).mgmt = s.mgmt :=
  by unfold State.runTo; split <;> rfl
@[simp] theorem State.runTo_events (d : Time) (s : State) : (s.runTo d).events = s.events :=
  by unfold State.runTo; split <;> rfl
@[simp] theorem State.runTo_frames (d : Time) (s : State) : (s.runTo d).frames = s.frames :=
  by unfold State.runTo; split <;> rfl
@[simp] theorem State.runTo_scanout (d : Time) (s : State) : (s.runTo d).scanout = s.scanout :=
  by unfold State.runTo; split <;> rfl
@[simp] theorem State.runTo_sense (d : Time) (s : State) : (s.runTo d).sense = s.sense :=
  by unfold State.runTo; split <;> rfl
@[simp] theorem State.runTo_report (d : Time) (s : State) : (s.runTo d).report = s.report :=
  by unfold State.runTo; split <;> rfl
@[simp] theorem State.runTo_pose (d : Time) (s : State) : (s.runTo d).pose = s.pose :=
  by unfold State.runTo; split <;> rfl
@[simp] theorem State.runTo_sound (d : Time) (s : State) : (s.runTo d).sound = s.sound :=
  by unfold State.runTo; split <;> rfl
@[simp] theorem State.runTo_power (d : Time) (s : State) : (s.runTo d).power = s.power :=
  by unfold State.runTo; split <;> rfl
@[simp] theorem State.runTo_sender (d : Time) (s : State) : (s.runTo d).sender = s.sender :=
  by unfold State.runTo; split <;> rfl
@[simp] theorem State.runTo_clock_source (d : Time) (s : State) : (s.runTo d).clock.source = s.clock.source :=
  by unfold State.runTo; split <;> rfl
@[simp] theorem State.runTo_clock_crystalPresent (d : Time) (s : State) : (s.runTo d).clock.crystalPresent = s.clock.crystalPresent :=
  by unfold State.runTo; split <;> rfl
@[simp] theorem State.runTo_link_state (d : Time) (s : State) : (s.runTo d).link.state = s.link.state :=
  by unfold State.runTo; split <;> rfl
@[simp] theorem State.runTo_link_goodRun (d : Time) (s : State) : (s.runTo d).link.goodRun = s.link.goodRun :=
  by unfold State.runTo; split <;> rfl
@[simp] theorem State.runTo_link_badRun (d : Time) (s : State) : (s.runTo d).link.badRun = s.link.badRun :=
  by unfold State.runTo; split <;> rfl
@[simp] theorem State.runTo_link_clockPresent (d : Time) (s : State) : (s.runTo d).link.clockPresent = s.link.clockPresent :=
  by unfold State.runTo; split <;> rfl
@[simp] theorem State.runTo_link_hold (d : Time) (s : State) : (s.runTo d).link.hold = s.link.hold :=
  by unfold State.runTo; split <;> rfl
@[simp] theorem State.runTo_link_counters (d : Time) (s : State) : (s.runTo d).link.counters = s.link.counters :=
  by unfold State.runTo; split <;> rfl

/-! ### clearHistory -/

@[simp] theorem State.clearHistory_pending (s : State) : (s.clearHistory).pending = s.pending := rfl
@[simp] theorem State.clearHistory_clock (s : State) : (s.clearHistory).clock = s.clock := rfl
@[simp] theorem State.clearHistory_link (s : State) : (s.clearHistory).link = s.link := rfl
@[simp] theorem State.clearHistory_cause (s : State) : (s.clearHistory).cause = s.cause := rfl
@[simp] theorem State.clearHistory_streams (s : State) : (s.clearHistory).streams = s.streams := rfl
@[simp] theorem State.clearHistory_mgmt (s : State) : (s.clearHistory).mgmt = s.mgmt := rfl
@[simp] theorem State.clearHistory_events (s : State) : (s.clearHistory).events = s.events := rfl
@[simp] theorem State.clearHistory_frames (s : State) : (s.clearHistory).frames = s.frames := rfl
@[simp] theorem State.clearHistory_scanout (s : State) : (s.clearHistory).scanout = s.scanout := rfl
@[simp] theorem State.clearHistory_sense (s : State) : (s.clearHistory).sense = s.sense := rfl
@[simp] theorem State.clearHistory_report (s : State) : (s.clearHistory).report = s.report := rfl
@[simp] theorem State.clearHistory_sound (s : State) : (s.clearHistory).sound = s.sound := rfl
@[simp] theorem State.clearHistory_power (s : State) : (s.clearHistory).power = s.power := rfl
@[simp] theorem State.clearHistory_sender (s : State) : (s.clearHistory).sender = s.sender := rfl
@[simp] theorem State.clearHistory_pose_yaw (s : State) : (s.clearHistory).pose.yaw = s.pose.yaw := rfl
@[simp] theorem State.clearHistory_pose_pitch (s : State) : (s.clearHistory).pose.pitch = s.pose.pitch := rfl

/-! ### sendCell -/

@[simp] theorem State.sendCell_pending (c : UpCell) (s : State) : (s.sendCell c).pending = s.pending := rfl
@[simp] theorem State.sendCell_clock (c : UpCell) (s : State) : (s.sendCell c).clock = s.clock := rfl
@[simp] theorem State.sendCell_link (c : UpCell) (s : State) : (s.sendCell c).link = s.link := rfl
@[simp] theorem State.sendCell_cause (c : UpCell) (s : State) : (s.sendCell c).cause = s.cause := rfl
@[simp] theorem State.sendCell_streams (c : UpCell) (s : State) : (s.sendCell c).streams = s.streams := rfl
@[simp] theorem State.sendCell_mgmt (c : UpCell) (s : State) : (s.sendCell c).mgmt = s.mgmt := rfl
@[simp] theorem State.sendCell_events (c : UpCell) (s : State) : (s.sendCell c).events = s.events := rfl
@[simp] theorem State.sendCell_frames (c : UpCell) (s : State) : (s.sendCell c).frames = s.frames := rfl
@[simp] theorem State.sendCell_scanout (c : UpCell) (s : State) : (s.sendCell c).scanout = s.scanout := rfl
@[simp] theorem State.sendCell_sense (c : UpCell) (s : State) : (s.sendCell c).sense = s.sense := rfl
@[simp] theorem State.sendCell_report (c : UpCell) (s : State) : (s.sendCell c).report = s.report := rfl
@[simp] theorem State.sendCell_pose (c : UpCell) (s : State) : (s.sendCell c).pose = s.pose := rfl
@[simp] theorem State.sendCell_sound (c : UpCell) (s : State) : (s.sendCell c).sound = s.sound := rfl
@[simp] theorem State.sendCell_power (c : UpCell) (s : State) : (s.sendCell c).power = s.power := rfl
@[simp] theorem State.sendCell_sender_last (c : UpCell) (s : State) : (s.sendCell c).sender.last = s.sender.last :=
  rfl
@[simp] theorem State.sendCell_wire (c : UpCell) (s : State) : (s.sendCell c).sender.wire = some c := rfl

/-! ### ageHead -/

@[simp] theorem State.ageHead_pending (s : State) : (s.ageHead).pending = s.pending := rfl
@[simp] theorem State.ageHead_clock (s : State) : (s.ageHead).clock = s.clock := rfl
@[simp] theorem State.ageHead_link (s : State) : (s.ageHead).link = s.link := rfl
@[simp] theorem State.ageHead_cause (s : State) : (s.ageHead).cause = s.cause := rfl
@[simp] theorem State.ageHead_streams (s : State) : (s.ageHead).streams = s.streams := rfl
@[simp] theorem State.ageHead_mgmt (s : State) : (s.ageHead).mgmt = s.mgmt := rfl
@[simp] theorem State.ageHead_events (s : State) : (s.ageHead).events = s.events := rfl
@[simp] theorem State.ageHead_frames (s : State) : (s.ageHead).frames = s.frames := rfl
@[simp] theorem State.ageHead_scanout (s : State) : (s.ageHead).scanout = s.scanout := rfl
@[simp] theorem State.ageHead_sense (s : State) : (s.ageHead).sense = s.sense := rfl
@[simp] theorem State.ageHead_pose (s : State) : (s.ageHead).pose = s.pose := rfl
@[simp] theorem State.ageHead_sound (s : State) : (s.ageHead).sound = s.sound := rfl
@[simp] theorem State.ageHead_power (s : State) : (s.ageHead).power = s.power := rfl
@[simp] theorem State.ageHead_sender (s : State) : (s.ageHead).sender = s.sender := rfl
@[simp] theorem State.ageHead_report_threshold (s : State) : (s.ageHead).report.threshold = s.report.threshold := rfl
@[simp] theorem State.ageHead_report_ageLimit (s : State) : (s.ageHead).report.ageLimit = s.report.ageLimit := rfl
@[simp] theorem State.ageHead_report_queue (s : State) : (s.ageHead).report.queue = s.report.queue := rfl
@[simp] theorem State.ageHead_report_gap (s : State) : (s.ageHead).report.gap = s.report.gap := rfl
@[simp] theorem State.ageHead_report_filling (s : State) : (s.ageHead).report.filling = s.report.filling := rfl
@[simp] theorem State.ageHead_expired (s : State) : s.ageHead.report.expired = true := rfl

/-! ### setLock -/

@[simp] theorem State.setLock_pending (s : State) : (s.setLock).pending = s.pending := rfl
@[simp] theorem State.setLock_clock (s : State) : (s.setLock).clock = s.clock := rfl
@[simp] theorem State.setLock_link (s : State) : (s.setLock).link = s.link := rfl
@[simp] theorem State.setLock_cause (s : State) : (s.setLock).cause = s.cause := rfl
@[simp] theorem State.setLock_streams (s : State) : (s.setLock).streams = s.streams := rfl
@[simp] theorem State.setLock_mgmt (s : State) : (s.setLock).mgmt = s.mgmt := rfl
@[simp] theorem State.setLock_frames (s : State) : (s.setLock).frames = s.frames := rfl
@[simp] theorem State.setLock_scanout (s : State) : (s.setLock).scanout = s.scanout := rfl
@[simp] theorem State.setLock_sense (s : State) : (s.setLock).sense = s.sense := rfl
@[simp] theorem State.setLock_report (s : State) : (s.setLock).report = s.report := rfl
@[simp] theorem State.setLock_pose (s : State) : (s.setLock).pose = s.pose := rfl
@[simp] theorem State.setLock_sound (s : State) : (s.setLock).sound = s.sound := rfl
@[simp] theorem State.setLock_power (s : State) : (s.setLock).power = s.power := rfl
@[simp] theorem State.setLock_sender (s : State) : (s.setLock).sender = s.sender := rfl
@[simp] theorem State.setLock_events_raised (s : State) : (s.setLock).events.raised = s.events.raised := rfl
@[simp] theorem State.setLock_events_enabled (s : State) : (s.setLock).events.enabled = s.events.enabled := rfl
@[simp] theorem State.setLock_events_gateOpen (s : State) : (s.setLock).events.gateOpen = s.events.gateOpen := rfl
@[simp] theorem State.setLock_events_notice (s : State) : (s.setLock).events.notice = s.events.notice := rfl
@[simp] theorem State.setLock_lock (s : State) : s.setLock.events.lock = true := rfl

end Sys2Proof.Machine
end

