-- ==== Sys2Proof/Laws/Events.lean ====
section
/-! SUPPORT. The Event Unit's laws: what raising, enabling, disabling, clearing and the gate do, and how the raises of one command compose. -/

namespace Sys2Proof.Machine

theorem EventKind.mark_ne_zero (k : EventKind) : k.mark ≠ 0 := by cases k <;> decide

/-- A settled Event Unit keeps R163. -/
theorem NoticeSettles.of_settle {s t : State} {new : Events} (h : t.events = s.events.settle new) : NoticeSettles s t := by
  simp only [NoticeSettles, h, Events.settle, Events.pending]
  cases new.gateOpen <;> cases s.events.gateOpen <;> cases s.events.notice <;> simp

theorem NoticeSettles.raise (k : EventKind) (s : State) : NoticeSettles s (s.raise k) := NoticeSettles.of_settle rfl
theorem NoticeSettles.injectEvents (x : EventSet) (s : State) : NoticeSettles s (s.injectEvents x) := NoticeSettles.of_settle rfl
theorem NoticeSettles.clearEvents (x : EventSet) (s : State) : NoticeSettles s (s.clearEvents x) := NoticeSettles.of_settle rfl
theorem NoticeSettles.enableEvents (x : EventSet) (s : State) : NoticeSettles s (s.enableEvents x) := NoticeSettles.of_settle rfl
theorem NoticeSettles.disableEvents (x : EventSet) (s : State) : NoticeSettles s (s.disableEvents x) := NoticeSettles.of_settle rfl
theorem NoticeSettles.setGate (b : Bool) (s : State) : NoticeSettles s (s.setGate b) := NoticeSettles.of_settle rfl

/-- Nothing raised. -/
theorem EventsRaised.refl (s : State) : EventsRaised 0 s s := ⟨by simp, by simp⟩

/-- One kind raised (R157). -/
theorem EventsRaised.raise (k : EventKind) (s : State) : EventsRaised k.mark s (s.raise k) :=
  ⟨rfl, by rw [if_neg k.mark_ne_zero]; exact NoticeSettles.raise k s⟩

theorem EventsRaised.raiseIf (b : Bool) (k : EventKind) (s : State) : EventsRaised (k.markIf b) s (s.raiseIf b k) := by
  cases b
  · exact EventsRaised.refl s
  · exact EventsRaised.raise k s

/-- Only the Event Unit's part of the two states counts. -/
theorem EventsRaised.congr {x : EventSet} {s t u v : State} (h : EventsRaised x s t) (hs : u.events = s.events)
    (ht : v.events = t.events) : EventsRaised x u v := by
  simpa [EventsRaised, NoticeSettles, hs, ht] using h

/-- The logic of two raises, one after the other: `a` and `b` say that nothing is pending after the first and after the second, `f` and
`f'` that nothing is newly pending at them. -/
theorem notice_compose (g n c a b f f' : Prop) (h2 : a → (f' ↔ b)) (h1 : a → f) :
    (g ∧ ¬ b ∧ ((g ∧ ¬ a ∧ (n ∨ ¬ f ∨ c)) ∨ ¬ f' ∨ c)) ↔ (g ∧ ¬ b ∧ (n ∨ ¬ (f ∧ f') ∨ c)) := by
  tauto

/-- Raises of one command compose, as long as the enabled set and the gate stand. -/
theorem EventsRaised.trans {x y : EventSet} {s t u : State} (h : EventsRaised x s t) (k : EventsRaised y t u)
    (he : t.events.enabled = s.events.enabled) (hg : t.events.gateOpen = s.events.gateOpen)
    (he' : u.events.enabled = t.events.enabled) (hg' : u.events.gateOpen = t.events.gateOpen) : EventsRaised (x ||| y) s u := by
  obtain ⟨h1, h2⟩ := h
  obtain ⟨k1, k2⟩ := k
  refine ⟨by rw [k1, h1, BitVec.or_assoc], ?_⟩
  by_cases hx : x = 0
  · subst hx
    have ht : t.events.raised = s.events.raised := by simpa using h1
    have hn : t.events.notice = s.events.notice := by simpa using h2
    rw [show (0 : EventSet) ||| y = y by simp]
    simpa [NoticeSettles, Events.pending, ht, hn, he, hg] using k2
  · rw [if_neg hx] at h2
    by_cases hy : y = 0
    · subst hy
      have hu : u.events.raised = t.events.raised := by simpa using k1
      have hn : u.events.notice = t.events.notice := by simpa using k2
      have hxy : x ||| 0 = x := by simp
      rw [hxy, if_neg hx]
      simpa [NoticeSettles, Events.pending, hu, hn, he', hg'] using h2
    · rw [if_neg hy] at k2
      have hxy : x ||| y ≠ 0 := fun e => hx (by
        ext i hi
        have := congrArg (fun z : EventSet => z[i]) e
        simp at this
        simp [this.1])
      rw [if_neg hxy]
      simp only [NoticeSettles, Events.pending, k1, h1, he', he, hg', hg] at *
      rw [k2, h2]
      generalize s.events.raised = r
      generalize s.events.enabled = e
      have split3 : (r ||| x ||| y) &&& e &&& ~~~(r &&& e) = 0 ↔
          (r ||| x) &&& e &&& ~~~(r &&& e) = 0 ∧ (r ||| x ||| y) &&& e &&& ~~~((r ||| x) &&& e) = 0 := by
        simp only [BitVec.eq_of_getElem_eq_iff, BitVec.getElem_and, BitVec.getElem_or, BitVec.getElem_not]
        rw [← forall₂_and]
        refine forall₂_congr fun i hi => ?_
        cases r[i] <;> cases x[i] <;> cases y[i] <;> cases e[i] <;> simp
      have none : (r ||| x) &&& e = 0 → ((r ||| x ||| y) &&& e &&& ~~~((r ||| x) &&& e) = 0 ↔ (r ||| x ||| y) &&& e = 0) := by
        intro h0
        rw [h0, show ~~~(0 : EventSet) = BitVec.allOnes 21 by decide, BitVec.and_allOnes]
      have sub : (r ||| x) &&& e = 0 → (r ||| x) &&& e &&& ~~~(r &&& e) = 0 := by
        intro h0
        rw [h0]
        simp
      simp only [ne_eq, split3]
      exact notice_compose _ _ _ _ _ _ _ none sub

end Sys2Proof.Machine
end

