-- ==== Sys2Proof/Laws/Memory.lean ====
section
/-! SUPPORT. The stacked DRAM's laws: every operation keeps the canonical form, and what a byte reads as after a store or a cancelled write. -/

namespace Sys2Proof.Machine

/-! ### The cells of a store -/

theorem mem_cellsFrom {c : Host.Cell} : ∀ {a : Nat} {bytes : List Byte}, c ∈ cellsFrom a bytes → a ≤ c.1 ∧ c.1 < a + bytes.length
  | _, [], h => nomatch h
  | a, b :: bs, h => by
    rcases List.mem_cons.1 h with rfl | h
    · simp
    · have := mem_cellsFrom h
      simp only [List.length_cons]
      omega

theorem cellsFrom_wf : ∀ (a : Nat) (bytes : List Byte), Memory.wf (cellsFrom a bytes)
  | _, [] => List.Pairwise.nil
  | a, _ :: bs => List.pairwise_cons.2 ⟨fun _ h => by have := mem_cellsFrom h; omega, cellsFrom_wf (a + 1) bs⟩

/-- The reset memory, with nothing listed, has the canonical form. -/
theorem Memory.wf_reset : Memory.wf State.reset.frames.dram := List.Pairwise.nil

/-- A store keeps the canonical form. -/
theorem Memory.wf_store {m : Memory} (h : m.wf) (place : Nat) (bytes : List Byte) : Memory.wf (m.store place bytes) := by
  refine List.pairwise_append.2 ⟨List.pairwise_append.2 ⟨h.filter _, cellsFrom_wf place bytes, ?_⟩, h.filter _, ?_⟩
  · intro c hc d hd
    have := (List.mem_filter.1 hc).2
    have := mem_cellsFrom hd
    simp_all only [decide_eq_true_eq]
    omega
  · intro c hc d hd
    have hd := (List.mem_filter.1 hd).2
    rcases List.mem_append.1 hc with hc | hc
    · have := (List.mem_filter.1 hc).2
      simp_all only [decide_eq_true_eq]
      omega
    · have := mem_cellsFrom hc
      simp_all only [decide_eq_true_eq]
      omega

/-- A cancelled write keeps the canonical form. -/
theorem Memory.wf_forget {m : Memory} (h : m.wf) (place len : Nat) : Memory.wf (m.forget place len) := h.filter _

/-- A reset's cancelled writes keep the canonical form (R43). -/
theorem FrameStore.wf_cancelled {f : FrameStore} (h : f.dram.wf) : Memory.wf f.cancelled.dram := by
  have key : ∀ (ws : List BandWrite) (m : Memory), m.wf →
      Memory.wf (ws.foldl (fun m w => m.forget w.place w.rows.length) m) := by
    intro ws
    induction ws with
    | nil => exact fun m h => h
    | cons w ws ih => exact fun m h => ih _ (Memory.wf_forget h _ _)
  exact key _ _ h

/-! ### Reading -/

theorem find_cellsFrom : ∀ (p : Nat) (bytes : List Byte) (a : Nat),
    Memory.readByte (cellsFrom p bytes) a = if p ≤ a ∧ a < p + bytes.length then bytes[a - p]? else none
  | p, [], a => by
    simp [cellsFrom, Memory.readByte]
  | p, b :: bs, a => by
    have ih := find_cellsFrom (p + 1) bs a
    simp only [Memory.readByte, cellsFrom, List.find?_cons, List.length_cons] at *
    by_cases h : p = a
    · subst h
      simp
    · simp only [beq_eq_false_iff_ne.2 h, ih]
      by_cases h1 : p ≤ a ∧ a < p + (bs.length + 1)
      · have e : a - p = (a - (p + 1)) + 1 := by omega
        rw [if_pos (by omega), if_pos h1, e, List.getElem?_cons_succ]
      · rw [if_neg (by omega), if_neg h1]

theorem readByte_append (m n : Memory) (a : Nat) :
    Memory.readByte (m ++ n) a = (Memory.readByte m a).or (Memory.readByte n a) := by
  simp only [Memory.readByte, List.find?_append]
  cases List.find? (fun c : Host.Cell => c.1 == a) m <;> rfl

theorem readByte_filter (m : Memory) (p : Nat → Bool) (a : Nat) :
    Memory.readByte (m.filter fun c => p c.1) a = if p a then Memory.readByte m a else none := by
  induction m with
  | nil => simp [Memory.readByte]
  | cons c m ih =>
    simp only [Memory.readByte] at *
    rw [List.filter_cons, List.find?_cons]
    by_cases hc : c.1 = a
    · subst hc
      by_cases hp : p c.1 = true
      · rw [if_pos hp, List.find?_cons, if_pos hp]
        simp
      · rw [if_neg hp, ih, if_neg hp, if_neg hp]
    · rw [beq_eq_false_iff_ne.2 hc]
      by_cases hp : p c.1 = true
      · rw [if_pos hp, List.find?_cons, beq_eq_false_iff_ne.2 hc]
        exact ih
      · rw [if_neg hp]
        exact ih

/-- A byte after a store: the stored byte inside its place, the old byte everywhere else. -/
theorem Memory.readByte_store (m : Memory) (place : Nat) (bytes : List Byte) (a : Nat) :
    Memory.readByte (m.store place bytes) a =
      if place ≤ a ∧ a < place + bytes.length then bytes[a - place]? else m.readByte a := by
  have h1 := readByte_filter m (fun x => decide (x < place)) a
  have h2 := readByte_filter m (fun x => decide (place + bytes.length ≤ x)) a
  simp only [decide_eq_true_eq] at h1 h2
  rw [Memory.store, readByte_append, readByte_append, h1, h2, find_cellsFrom]
  by_cases hlt : a < place
  · have h3 : ¬ place ≤ a := by omega
    have h4 : ¬ place + bytes.length ≤ a := by omega
    simp [hlt, h3, h4]
  · have h3 : place ≤ a := by omega
    by_cases hge : place + bytes.length ≤ a
    · have h4 : ¬ a < place + bytes.length := by omega
      simp [hlt, hge, h4]
    · have h4 : a < place + bytes.length := by omega
      simp [hlt, hge, h3, h4]

/-- A byte after a cancelled write: no value inside its place, the old byte everywhere else. -/
theorem Memory.readByte_forget (m : Memory) (place len a : Nat) :
    Memory.readByte (m.forget place len) a = if place ≤ a ∧ a < place + len then none else m.readByte a := by
  have h := readByte_filter m (fun x => decide (x < place) || decide (place + len ≤ x)) a
  rw [Memory.forget, h]
  by_cases hin : place ≤ a ∧ a < place + len
  · rw [if_pos hin, if_neg (by simp; omega)]
  · rw [if_neg hin, if_pos (by simp; omega)]

end Sys2Proof.Machine
end

