-- ==== Sys2Proof/Laws/Service.lean ====
section
/-! SUPPORT. The Management Unit's turn (R144): what `serveOldest` and `caughtUp` do, so that no proof unfolds them. -/

namespace Sys2Proof.Machine

/-- Where no request can be served the turn changes nothing. -/
@[simp] theorem State.caughtUp_of_not_servable (s : State) (h : s.servable = false) : s.caughtUp = s := by
  unfold State.caughtUp
  cases s.mgmt.requests.length <;> simp [State.serveUpTo, h]

/-- An event whose turn finds nothing to serve acts at once. -/
@[simp] theorem State.inTurn_of_not_servable (f : State → State) (s : State) (h : s.servable = false) : s.inTurn f = .next (f s) := by
  simp [State.inTurn, h]

/-- The oldest request is served by the command of its row. -/
theorem State.exec_service (s : State) (r : Request) (h : s.mgmt.requests.head? = some r) : exec r.service s = .next s.serveOldest := by
  have key : ∀ c, r.service = c → (exec c s = .next s.serveOldest) := by
    intro c hc
    unfold State.serveOldest
    rw [h, Option.map_some, hc]
    unfold Request.service at hc
    split at hc <;> first | (subst hc; rfl) | (split at hc <;> subst hc <;> rfl)
  exact key _ rfl

end Sys2Proof.Machine
end

