-- ==== Sys2Proof/Tests/Slice0.lean ====
section
/-! SUPPORT. Tests: the WellFormed smoke, worked examples of the spec's own tables, one small test or two for the commands, and for every obligation with hypotheses a state and operands that meet them. -/

set_option maxRecDepth 8000

namespace Sys2Proof.Tests
open Sys2Proof Sys2Proof.Machine

/-! ### States the tests start from -/

/-- The state after a command. -/
def after (c : Instr) (s : State) : State :=
  match exec c s with
  | .next t => t
  | .fault _ => s
  | .refused _ => s

/-- The link in a state, with a good run. -/
def withLink (l : LinkState) (run : Nat) (s : State) : State := { s with link := { s.link with state := l, goodRun := run } }

def up : State := withLink .up 0 State.reset

/-- The link LOST, its hold timer due at 250,000. -/
def lost : State := { State.reset with link := { State.reset.link with state := .lost, hold := some 250000 } }

/-- The link UP and the stance FULL. -/
def full : State := { up with power := { up.power with ordered := .full, inEffect := .full, cap := 1023, floor := 0 } }

/-- A request of stream 0, tag 7. -/
def request (op : Byte) (operands : List Byte) : Request := ⟨0, 7, op, operands⟩

/-- A state in which one request waits. -/
def asked (op : Byte) (operands : List Byte) (s : State) : State :=
  { s with mgmt := { s.mgmt with requests := [request op operands] } }

/-- Stream 1 under an entry. -/
def streamOne (accepts : Accepts) (access : Access) (s : State) : State :=
  { s with streams := s.streams.set 1 ⟨true, accepts, .a, access, 0, 0⟩ }

/-- The last answer placed. -/
def answerOf (s : State) : Option Answer := s.mgmt.answers.getLast?

/-- The status and the reason of the last answer. -/
def outcome (s : State) : Option (Status × Option Reason × Option Nat) := (answerOf s).map fun a => (a.status, a.reason, a.field)

/-- Slots as bytes. -/
def slots (l : List Nat) : List Byte := l.flatMap (le 4)

/-! ### WellFormed: an ill-formed term for each check -/

theorem test_band_rows_too_long (rows : List Byte) (h : rows.length = 16777212) : (Instr.picBand 1 0 0 0 rows).wellFormed = false := by
  simp only [Instr.wellFormed, bandRowsFit, h, decide_eq_false_iff_not]
  norm_num

theorem test_sound_without_pairs : (Instr.sound 1 []).wellFormed = false := by decide
theorem test_sound_129_pairs : (Instr.sound 1 (List.replicate 129 (0, 0))).wellFormed = false := by decide

theorem test_ask_too_long (operands : List Byte) (h : operands.length = 16777214) : (Instr.ask 0 0 0 operands).wellFormed = false := by
  simp only [Instr.wellFormed, askOperandsFit, h, decide_eq_false_iff_not]
  norm_num

/-! ### Cells (R167 to R170) -/

/-- The CRC-32 of the nine digits, a value known of this polynomial outside the spec. -/
theorem test_payload_check : payloadCheck [0x31, 0x32, 0x33, 0x34, 0x35, 0x36, 0x37, 0x38, 0x39] = 0xCBF43926#32 := by decide

/-- The CRC-8 of the nine digits for 07h reflected, from FFh, is D0h outside the spec; R168 complements it. -/
theorem test_header_check : headerCheck [0x31, 0x32, 0x33, 0x34, 0x35, 0x36, 0x37, 0x38, 0x39] = 0x2F#8 := by decide

/-- A FILL is its 8-byte header alone (R167, R169). -/
theorem test_fill_bytes : (encodeCell (.fill 0)).map List.length = some 8 := by decide

theorem test_pic_open_bytes : (encodeCell (.picOpen 3 0x1234 1 0xA1B2C3D4)).map (fun b => b.take 7 ++ (b.drop 8).take 8) =
    some [1, 3, 8, 0, 0, 0, 0, 0x34, 0x12, 1, 0, 0xD4, 0xC3, 0xB2, 0xA1] := by decide

theorem test_ask_received : receiveBytes (cellBytes 5 0 [7, 1, 2, 0] ++ [0xBC, 0xBC]) = .ok (.ask 0 7 1 [2, 0]) := by decide
theorem test_sound_signs : receiveBytes (cellBytes 4 1 [1, 0, 0, 0xFF, 0xFF, 0xFF]) = .ok (.sound 1 [(1, -1)]) := by decide
theorem test_unknown_kind : receiveBytes (cellBytes 7 0 []) = .error .unknownKind := by decide
theorem test_runt : receiveBytes (cellBytes 3 0 [1]) = .error .runt := by decide
theorem test_cut_payload : receiveBytes ((cellBytes 5 0 [7, 1]).take 13) = .error .runt := by decide

/-! ### Sensing: Tables 1-6 and 1-7 -/

def gained (offset : Int) (gain : Nat) : Channel := { Channel.default with offset := offset, gain := gain }

theorem test_table_1_6 : [(gained (-34) 5120).correct 1234, (gained 0 6144).correct (-3), (gained 0 8192).correct 30000,
    (gained 0 20480).correct 2400, (gained 0 4096).correct 2048, (gained (-1093) 10240).correct 1200] =
    [1500, -5, 32767, 12000, 2048, 268] := by decide

/-- Slot 8 at its defaults judged sample after sample: condition alarm, run count, sticky flag and side. -/
def judged (samples : List Int) : Nat × Bool × Bool × Side :=
  let x := samples.foldl (fun x v => x.take (defaultChannel 8) v 0) SampleState.cleared
  (x.run, x.alarm, x.sticky, x.side)

theorem test_table_1_7_before : judged [12000, 8900, 8950] = (2, false, false, .none) := by decide
theorem test_table_1_7_onset : judged [12000, 8900, 8950, 8800] = (0, true, true, .below) := by decide
theorem test_table_1_7_ending : judged [12000, 8900, 8950, 8800, 9100, 9200] = (2, true, true, .below) := by decide

theorem test_range_clear : let x : SampleState := ⟨9200, 0, true, 0, 0, true, 2, true, true, .below⟩
    let s := asked 0x22 [0, 1] (up.setSample 8 x)
    ((after .rangeClear s).sense.samples[8], outcome (after .rangeClear s)) =
      ({ x with sticky := false, side := .none }, some (.done, none, none)) := by decide

theorem test_extremes_clear : let s := asked 0x23 [0, 1] (up.setSample 8 ⟨1, 0, true, 0, 2, true, 0, false, false, .none⟩)
    (after .extremesClear s).sense.samples[8].extremesValid = false := by decide

/-- SLOW's first trigger comes at its start (R19); with slot 8 its lowest member it starts a conversion. -/
theorem test_scan_trigger : (after (.scanTrigger .slow) State.reset).sense.converter = some ⟨.slow, 0⟩ := by decide

/-- 12 V on the bus divider: raw 2400 with gain 5 (Table 1-6), stamped with the conversion's start. -/
theorem test_conversion : let s := after (.conversionComplete 2400) (after (.scanTrigger .slow) State.reset)
    (s.sense.samples[8].value, s.sense.samples[8].time, s.clock.now, s.sense.converter) =
      (12000, 0, 3, some ⟨.slow, 3⟩) := by decide

/-- FAST with one motion slot, PASSING, its burst begun at time 0. -/
def bursting : State :=
  { full with sense := { full.sense with
      channels := full.sense.channels.set 0 ⟨some 2, .fast, .yaw, true, 0, 4096, .off, 0, 0, 1⟩
      fast := ⟨.continuous, .timer, 1000, false, .passing, 0, some (.after 0), some ⟨some 0, [0], none⟩⟩
      port := some ⟨.fast, 0⟩ } }

theorem test_burst : let s := after (.burstComplete ⟨1, 2, 1600, 4, 5, 6⟩) bursting
    (s.sense.samples[0].value, s.sense.fast.passes, s.pose.prev, s.clock.now) = (1600, 1, some 0, 24) := by decide

theorem test_group_start : let s := after .groupStart (asked 0x20 [0] full)
    (s.sense.fast.phase, s.sense.fast.timer, outcome s) = (.armed, some (.first 0), some (.done, none, none)) := by decide

theorem test_group_start_forbidden : outcome (after .groupStart (asked 0x20 [0] up)) = some (.refused, some .conflict, none) := by
  decide

theorem test_group_stop : let s := after .groupStop (asked 0x21 [0] bursting)
    (s.sense.fast.phase, s.sense.port, s.sense.fast.passes) = (.stopped, none, 0) := by decide

/-! ### Reports and pose: Tables 2-2 and 2-5 -/

/-- Table 2-2 before the grant: six entries, the second half of them out of order of time. -/
def queued : State :=
  { up with report := { up.report with threshold := 6, queue := [⟨8, 1, 5020⟩, ⟨9, 2, 5023⟩, ⟨0, 3, 5004⟩, ⟨1, 4, 5004⟩, ⟨10, 5, 5026⟩,
      ⟨5, 6, 5029⟩] } }

theorem test_table_2_2_cell : (after .cellBoundary queued).sender.wire = some (.motion 5020 0 [⟨8, 1, 0⟩, ⟨9, 2, 3⟩]) := by decide
theorem test_table_2_2_rest : (after .cellBoundary queued).report.queue.map (·.slot) = [0, 1, 10, 5] := by decide

theorem test_age_expiry : let s := after .ageExpiry { up with report := { up.report with queue := [⟨8, 1, 5020⟩] } }
    (s.clock.now, s.report.motionReady) = (6020, true) := by decide

/-- The history of Table 2-4. -/
def history : List PoseEntry :=
  [⟨0xFFFFF830, 0, 0⟩, ⟨0xFFFFFC18, 1600000, 0⟩, ⟨0, 3200000, 0⟩, ⟨0x3E8, 4800000, 0⟩, ⟨0x1B58, 11352000, 0⟩]

theorem test_table_2_5 : [0xFFFFFF00, 0x1B58, 0x2000, 0xFFFFF000].map (lookupPose history) =
    [.found 9752000 0 0xFFFFFC18 0x1B58, .found 0 0 0x1B58 0x1B58, .ahead 0x1B58, .stale 11352000 0 0xFFFFF830 0x1B58] := by decide

/-- The last row of Table 2-4: an interval of 6000 µs counts as 4095 and raises GYRO_GAP. -/
theorem test_table_2_4_gap : let s := ({ up with pose := ⟨4800000, 0, some 0x3E8, history.take 4⟩ }).integratePass 0x1B58 (some 1600) none
    (s.pose.yaw, s.pose.history, s.events.raised.getLsbD 11) = (11352000, history, true) := by decide

/-! ### Frames: Table 3-5 -/

/-- Slot 0 filling frame 9 with some bands and one write outstanding; stream 1 carries pictures. -/
def filling : State :=
  let s := streamOne .picture .full up
  { s with frames := { s.frames with
      slots := s.frames.slots.set 0 ⟨.filling, some 9, some 100, false, [0, 1], [0], 0⟩
      writes := [⟨0, .left, 2, 9, 208896, [0xAA, 0xBB]⟩] } }

theorem test_table_3_5_reopened : let s := after (.picOpen 1 10 0 200) filling
    (s.frames.slots[0], s.outstanding 0, s.events.raised.getLsbD 7) = (⟨.filling, some 10, some 200, false, [], [], 0⟩, 1, true) := by decide

theorem test_table_3_5_old_write : let s := after (.bandWriteComplete 0) (after (.picOpen 1 10 0 200) filling)
    (s.frames.slots[0].left, s.outstanding 0, Memory.readByte s.frames.dram 208897) = ([], 0, some 0xBB) := by decide

theorem test_band_write_joins : (after (.bandWriteComplete 0) filling).frames.slots[0].left = [0, 1, 2] := by decide

theorem test_stray_close : let s := after (.picClose 1 10) filling
    (s.frames.slots[0].phase, s.streams[1].discarded) = (.filling, 1) := by decide

theorem test_close_waits : let s := after (.picClose 1 9) filling
    (s.frames.slots[0].phase, s.streams[1].accepted) = (.closing, 1) := by decide

/-- A frame closed with bands missing is discarded at its last write (R52). -/
theorem test_close_discards : let s := after (.bandWriteComplete 0) (after (.picClose 1 9) filling)
    (s.frames.slots[0].phase, s.events.raised.getLsbD 5) = (.empty, true) := by decide

/-- A band of no eye passes the receiver whatever its length (R47, R122), and is stray. -/
theorem test_stray_band (rows : List Byte) : filling.bandLengthOk 2 0 rows = true := rfl

theorem test_stray_band_counted : let s := after (.picBand 1 9 2 0 [1, 2, 3]) filling
    (s.link.counters.runt, s.link.counters.handedOn, s.streams[1].discarded, s.frames.writes.length) = (0, 1, 1, 1) := by decide

/-- A band whose length does not fit the panel's row is a runt (R122). -/
theorem test_band_runt : let s := after (.picBand 1 9 0 3 [1, 2, 3]) filling
    (s.link.counters.runt, s.link.counters.handedOn, s.frames.writes.length) = (1, 0, 1) := by decide

/-! ### Scanout: Table 4-6 -/

/-- K H 5760 with its shift enabled, margins 64 (Table 4-6). -/
def shifting : Panel := { Panel.default with kH := 5760, kV := 5760, shiftEnable := true }

theorem test_table_4_6 : [19200000, -19200000, 57600000, -57600000].map (fun d => clampShift 64 (shiftOf d 5760)) = [27, -27, 64, -64] := by
  decide

theorem test_table_4_6_pitch : shiftOf 8000000 5760 = 11 := by decide

/-- The LEFT panel ON over the SHOWING slot 0, its latch due at 11,111. -/
def lit : State :=
  { full with
    frames := { full.frames with slots := full.frames.slots.set 0 ⟨.showing, some 9, some 100, true, [], [], 0⟩ }
    scanout := { full.scanout with left := { Panel.default with power := .on }, enable := true, latchDue := some 11111 } }

theorem test_latch_shows : let s := after .frameLatch lit
    (s.scanout.left.shown, s.scanout.left.window, s.scanout.latchDue, s.frames.slots[0].repeats) =
      (512, some ⟨0, 64, 64⟩, some 22222, 1) := by decide

/-- Past the repeat limit of 2 the refresh is black and PICTURE_STARVED is raised (R70). -/
theorem test_latch_starves : let s := after .frameLatch (after .frameLatch (after .frameLatch lit))
    (s.scanout.left.shown, s.scanout.left.starved, s.events.raised.getLsbD 8) = (0, true, true) := by decide

/-- The LEFT panel STARTING, to be ready at 20,000. -/
def starting : State :=
  { full with scanout := { full.scanout with enable := true, left := { Panel.default with power := .starting, seqEnd := 20000 } } }

theorem test_panel_ready : let s := after (.panelReady .left) starting
    (s.scanout.left.power, s.scanout.latchCount, s.clock.now) = (.on, 1, 20000) := by decide

theorem test_power_down : (after (.powerDownComplete .left)
    { full with scanout := { full.scanout with left := { Panel.default with power := .stopping } } }).scanout.left.power = .off := by decide

/-! ### Sound: Tables 5-3 and 5-6 -/

theorem test_table_5_6 : [mixChannel 4000000 6000000 0 12 6, mixChannel 8000000 8000000 0 0 12, mixChannel (-1000000) 0 40 0 0,
    mixChannel 4000000 6000000 0 12 20] = [4960683, 4204287, -100006, 2215820] := by decide

/-- Queue A as Table 5-3 finds it: its last pair was (800,000, −1000). -/
def dry : Playout := ⟨.playing, [], 0, some ⟨800000, -1000⟩, false⟩

theorem test_table_5_3 : [dry.tick.2.1, dry.tick.1.tick.2.1, dry.tick.1.tick.1.tick.2.1] =
    [⟨775000, -968⟩, ⟨750000, -937⟩, ⟨725000, -906⟩] := by decide

theorem test_output_tick : let s := after .outputTick { full with sound := { full.sound with
      audio := { full.sound.audio with masterGain := 0 }
      queueA := ⟨.playing, [⟨5, -6⟩], 0, none, false⟩ } }
    (s.sound.output, s.sound.queueA.pairs, s.sound.tick) = (⟨5, -6⟩, [], ⟨41, 4⟩) := by decide

theorem test_slip_hold : (after .slipCheck { full with sound := { full.sound with
    slipDue := true, queueA := ⟨.playing, [⟨5, -6⟩], 0, none, false⟩ } }).sound.queueA.hold = true := by decide

theorem test_sound_taken : let s := after (.sound 1 [(1, -1)]) (streamOne .sound .full full)
    (s.sound.queueA.phase, s.sound.queueA.pairs, s.streams[1].accepted) = (.priming, [⟨1, -1⟩], 1) := by decide

theorem test_sound_barred : let s := after (.sound 1 [(1, -1)]) (streamOne .sound .full up)
    (s.sound.queueA, s.streams[1].discarded) = (Playout.emptied, 1) := by decide

theorem test_microphone : let s := after (.microphoneSample 0xFFFE) { full with sound := { full.sound with
      audio := { full.sound.audio with captureEnable := true } } }
    (s.sound.capture, s.sound.mic, s.clock.now) = ([⟨-2, 20⟩], ⟨41, 4⟩, 20) := by decide

/-! ### Power: Table 6-4 -/

/-- The cap and floor in force of Table 6-4's two ramps, at ramp time 50. -/
theorem test_table_6_4_first : [1, 2, 3].map (fun j => (rampValue 0 1023 j 5, rampValue 192 0 j 5)) = [(204, 154), (409, 116), (613, 77)] := by
  decide

theorem test_table_6_4_second : [1, 2, 3, 4].map (fun j => (rampValue 300 1023 j 5, rampValue 20 0 j 5)) =
    [(444, 16), (589, 12), (733, 8), (878, 4)] := by decide

theorem test_stance_order : let s := after .stanceOrder (asked 0x30 [0] up)
    (s.power.inEffect, s.power.ramp, s.mgmt.deferred, s.mgmt.answers) =
      (.full, some ⟨0, 192, 1023, 0, 30, 0⟩, some ⟨0, 7⟩, []) := by decide

/-- A stance check with slot 8 never sampled: rule 0 is stale, so its ceiling holds (Table 6-4's restrictive change). -/
theorem test_stance_check : let s := after .stanceCheck full
    (s.power.inEffect, s.power.cap, s.power.floor, s.power.stale, s.power.checkDue) = (.minimal, 300, 20, 3, 20000) := by decide

/-! ### Link and clocks: Tables 7-1 and 7-5 -/

theorem test_eighth_fill : ((after (.fill 0) (withLink .training 7 State.reset)).link.state,
    (after (.fill 0) (withLink .training 6 State.reset)).link.state) = (.up, .training) := by decide

/-- The first grant is made as the link becomes UP; a cell still on the wire is sent to its end first (R125, log 30). -/
theorem test_first_grant : ((after (.fill 0) (withLink .training 7 State.reset)).sender.wire,
    (after (.fill 0) { withLink .training 7 State.reset with sender := ⟨.notice, some (.notice 1)⟩ }).sender.wire) =
      (some .fill, some (.notice 1)) := by decide

theorem test_fourth_bad_header : let s := after (.cellDiscarded [1]) { up with link := { up.link with badRun := 3 } }
    (s.link.state, s.link.hold, s.link.counters.losses, s.link.counters.badHeader) = (.lost, some 250000, 1, 1) := by decide

theorem test_hold_expiry : let s := after .holdExpiry lost
    (s.link.state, s.cause.kind, s.link.counters.holdExpiries, s.clock.now) = (.training, .linkLoss, 1, 250000) := by decide

theorem test_clock_loss : let s := after .clockLossExpiry (after (.clockAbsent []) up)
    (s.link.state, s.clock.now, s.link.clockLoss) = (.lost, 20, none) := by decide

theorem test_clock_return : (after .clockReturn { State.reset with link := { State.reset.link with
    state := .down, clockPresent := false } }).link.state = .training := by decide

theorem test_crystal_loss : let s := after .crystalLossExpiry (after .crystalAbsent up)
    (s.clock.source, s.clock.now, s.cause.fallback, s.events.raised.getLsbD 3) = (.fallback, 0, true, true) := by decide

theorem test_crystal_return : (after .crystalReturn (after .crystalAbsent up)).clock = up.clock := by decide

/-- The rows of Table 7-5 in which a cyclic class is granted: the last class granted, the classes ready, the grant. -/
def granted (last : CyclicClass) (ready : List CyclicClass) : Option CyclicClass := last.after.find? fun c => ready.contains c

theorem test_table_7_5 : [granted .notice [.voice, .answer], granted .voice [.answer, .notice], granted .answer [.answer, .notice],
    granted .notice [.answer], granted .answer []] = [some .voice, some .answer, some .notice, some .answer, none] := by decide

theorem test_idle_lane : (after .cellBoundary State.reset).sender.wire = none := by decide
theorem test_fill_cell : (after .cellBoundary up).sender.wire = some .fill := by decide

theorem test_power_on_reset : (after .powerOnReset { lit with cause := ⟨.tether, true⟩ }).cause = ⟨.powerOn, false⟩ := by decide

/-- The 48 kHz schedules run on through a power-on reset: 7 µs before the next tick, it is 7 µs away again (R98). -/
theorem test_power_on_runs_on : let s := after .powerOnReset { full with clock := { full.clock with now := 1000 }, sound := { full.sound with
    tick := ⟨1007, 3⟩ } }
    (s.clock.now, s.sound.tick) = (0, ⟨7, 3⟩) := by decide

theorem test_tether_reset : let s := after (.reset 0) (asked 0x31 [] { lit with events := ⟨8, 8, true, true, true⟩ })
    (s.cause.kind, s.mgmt.requests, s.events, s.frames.slots[0].phase, s.link.state) =
      (.tether, [], ⟨1, 0, false, true, false⟩, .empty, .up) := by decide

theorem test_reset_elsewhere : let s := after (.reset 4) lit
    (s.cause, s.streams[4].discarded, s.frames.slots[0].phase) = (lit.cause, 1, .showing) := by decide

/-! ### Management: Tables 8-4, 9-3 and 9-4, the descriptor -/

/-- A WRITE to CHANNELS slot 3 of a state: mask, then the ten slots. -/
def writeSlot3 (mask : Nat) (image : List Nat) (s : State) : Option (Status × Option Reason × Option Nat) :=
  outcome (after .writeChannels (asked 2 ([1, 3] ++ le 4 mask ++ slots image) s))

/-- Slot 1 holds the YAW role in FAST, as Table 9-4 has it. -/
def yawed : State :=
  { full with sense := { full.sense with channels := full.sense.channels.set 1 ⟨some 1, .fast, .yaw, false, 0, 4096, .off, 0, 0, 1⟩ } }

theorem test_table_9_4_range : writeSlot3 7 [20, 1, 1, 0, 0, 0, 0, 0, 0, 0] yawed = some (.refused, some .range, some 0) := by decide
theorem test_table_9_4_yaw : writeSlot3 7 [2, 1, 1, 0, 0, 0, 0, 0, 0, 0] yawed = some (.refused, some .conflict, some 2) := by decide
theorem test_table_9_4_slow : writeSlot3 7 [2, 2, 2, 0, 0, 0, 0, 0, 0, 0] yawed = some (.refused, some .conflict, some 1) := by decide

theorem test_table_9_4_bounds : writeSlot3 0x387 [2, 1, 2, 0, 0, 0, 0, 100, 50, 0] yawed = some (.refused, some .conflict, some 7) := by
  decide

theorem test_table_9_4_done : writeSlot3 0x3C7 [2, 1, 2, 0, 0, 0, 1, 4294959296, 8000, 0] yawed = some (.done, none, none) := by decide

theorem test_table_9_4_busy : writeSlot3 0x3C7 [2, 1, 2, 0, 0, 0, 1, 4294959296, 8000, 0]
    { yawed with sense := { yawed.sense with fast := { yawed.sense.fast with phase := .armed } } } = some (.busy, none, some 1) := by decide

/-- A request of a LIMITED stream for an operation outside Table 8-4. -/
theorem test_limited_gate : outcome (after .gate { streamOne .ask .limited up with
    mgmt := ⟨[⟨1, 7, 0x14, [1]⟩], [], none⟩ }) = some (.refused, some .access, none) := by decide

/-- A LIMITED stream may dim a panel: its setpoint is clamped as for any stream. -/
theorem test_limited_setpoint : (after .writePanels { streamOne .ask .limited up with
    mgmt := ⟨[⟨1, 7, 2, [3, 0] ++ le 4 0x100 ++ slots [0, 0, 0, 0, 0, 0, 0, 0, 5000]⟩], [], none⟩ }).scanout.left.setpoint = 1023 := by decide

/-- A state in which 8 answers wait and 8 requests. -/
def crammed : State :=
  let r := request 1 []
  let a := r.refusal .unknown none
  { up with mgmt := ⟨[r, r, r, r, r, r, r, r], [a, a, a, a, a, a, a, a], none⟩ }

theorem test_ninth_request : let s := after (.ask 0 9 1 []) crammed
    (s.mgmt.requests.length, s.events.raised.getLsbD 4, s.streams[0].discarded) = (8, true, 1) := by decide

/-- The Management Unit serves whenever it can (R144): of ten ASKs in a row eight are served before the tenth, and none is dropped. -/
theorem test_ten_asks : let s := (List.replicate 10 (Instr.ask 0 9 0x31 [])).foldl (fun s c => after c s) up
    (s.mgmt.requests.length, s.mgmt.answers.length, s.streams[0].discarded) = (2, 8, 0) := by decide

/-- Headset time does not pass a request that can be served: the WRITE of RULES is carried out before the tick comes. -/
theorem test_service_before_tick : let s := after .outputTick (asked 2 ([9, 2] ++ le 4 7 ++ slots [1, 3, 1]) full)
    (s.power.rules[2], s.mgmt.requests, s.clock.now) = (⟨true, 3, .reduced⟩, [], 20) := by decide

theorem test_read_cause : (answerOf (after .read (asked 1 [18, 0] up))).map (·.value) = some [0, 0] := by decide
theorem test_read_beyond : outcome (after .read (asked 1 [18, 1] up)) = some (.refused, some .range, none) := by decide
theorem test_undefined_operation : outcome (after .read (asked 0x40 [] up)) = some (.refused, some .unknown, none) := by decide

theorem test_read_snapshot : (answerOf (after .readSnapshot (asked 1 [11, 0] up))).map (·.value) = some [0, 1, 0] := by decide

theorem test_write_read_only : outcome (after .write (asked 2 ([18, 0] ++ le 4 1) up)) = some (.refused, some .readOnly, none) := by decide

theorem test_descriptor_length : descriptor.length = 384 := by decide

/-- R155's own examples: offset 240 with length 144, with length 148, and offset 2. -/
theorem test_desc_read : ([[240, 0, 144], [240, 0, 148], [2, 0, 4]].map fun o => outcome (after .descRead (asked 3 o up))) =
    [some (.done, none, none), some (.refused, some .range, none), some (.refused, some .align, none)] := by decide

/-- The identity record's vendor and part codes (Table 11-7). -/
theorem test_desc_identity : (answerOf (after .descRead (asked 3 [8, 0, 8] up))).map (·.value) = some [0xA17, 0x6080] := by decide

theorem test_write_streams : (after .writeStreams (asked 2 ([0, 5] ++ le 4 3 ++ slots [1, 1, 0, 0]) up)).streams[5] =
    ⟨true, .picture, .a, .limited, 0, 0⟩ := by decide

theorem test_write_groups : (after .writeGroups (asked 2 ([2, 0] ++ le 4 4 ++ slots [0, 0, 10, 0]) up)).sense.fast.period = 50 := by decide
theorem test_write_scanout : (after .writeScanout (asked 2 ([4, 0] ++ le 4 1 ++ slots [1, 0]) full)).scanout.left.power = .starting := by decide

theorem test_write_audio : outcome (after .writeAudio (asked 2 ([5, 0] ++ le 4 4 ++ slots [0, 0, 256, 0, 0, 0, 0, 0, 0]) up)) =
    some (.refused, some .conflict, some 2) := by decide

theorem test_write_report : (after .writeReport (asked 2 ([6, 0] ++ le 4 3 ++ slots [0, 99999]) up)).report.image = [1, 10000] := by decide

theorem test_write_stances : (after .writeStances (asked 2 ([7, 0] ++ le 4 1 ++ slots [800, 0, 0, 0, 0, 0, 0]) full)).power.cap = 800 := by
  decide

theorem test_write_stance_limits : outcome (after .writeStanceLimits (asked 2 ([8, 0] ++ le 4 2 ++ slots [0, 15]) up)) =
    some (.refused, some .range, some 1) := by decide

theorem test_write_rules : (after .writeRules (asked 2 ([9, 2] ++ le 4 7 ++ slots [1, 3, 1]) up)).power.rules[2] = ⟨true, 3, .reduced⟩ := by
  decide

theorem test_counters_clear : (after .countersClear (asked 0x31 [] { up with
    link := { up.link with counters := ⟨1, 2, 3, 4, 5, 6, 7, 8⟩ } })).link.counters = LinkCounters.zero := by decide

/-! ### Events: Table 10-3 -/

/-- The state of Table 10-3 before its first row: RANGE_ALARM (15) and SHIFT_CLAMPED (10) enabled, the gate open, slot 8 sticky. -/
def watching : State :=
  let s := up.setSample 8 ⟨0, 0, true, 0, 0, true, 0, true, true, .below⟩
  { s with events := ⟨0, 0x8400, true, false, false⟩ }

theorem test_table_10_3_not_enabled : (watching.raise .scanOverrun).events.notice = false := by decide
theorem test_table_10_3_ready : (watching.raise .shiftClamped).events.notice = true := by decide

/-- EVENTS_CLEAR of both kinds: RANGE_ALARM is raised again, and makes no NOTICE ready. -/
theorem test_table_10_3_clear : let s := after .eventsClear (asked 0x10 (le 4 0x8400) { watching with
      events := ⟨0x9400, 0x8400, true, false, false⟩ })
    (s.events.raised, s.events.notice) = (0x9000, false) := by decide

theorem test_table_10_3_closed : (after .gate (asked 0x14 [0] { watching with events := ⟨0x9400, 0x8400, true, false, true⟩ })).events.notice =
    false := by decide

theorem test_table_10_3_opened : let s := after .gate (asked 0x14 [1] { watching with events := ⟨0x1400, 0x9400, false, false, false⟩ })
    (s.events.notice, (after .cellBoundary s).sender.last) = (true, .answer) := by decide

theorem test_events_enable : (after .eventsEnable (asked 0x11 (le 4 1) watching)).events.enabled = 0x8401 := by decide
theorem test_events_disable : (after .eventsDisable (asked 0x12 (le 4 0x400) watching)).events.enabled = 0x8000 := by decide
theorem test_event_21 : outcome (after .eventsEnable (asked 0x11 (le 4 0x200000) up)) = some (.refused, some .range, none) := by decide

theorem test_inject_locked : outcome (after .eventsInject (after .lockLive { up with
    mgmt := ⟨[request 0x15 [], request 0x13 (le 4 1)], [], none⟩ })) = some (.refused, some .locked, none) := by decide

theorem test_inject : (after .eventsInject (asked 0x13 (le 4 0x400) watching)).events.raised = 0x400 := by decide

/-! ### Witnesses: for each obligation with hypotheses, a state and operands that meet them, clause by clause -/

/-- The one request of `asked` is at its service. -/
theorem atService_asked (op : Byte) (operands : List Byte) (s : State) (hf : (asked op operands s).mgmt.fill < queueDepth)
    (ha : (asked op operands s).mayAccess (request op operands) = true) :
    (asked op operands s).atService (request op operands) [] := ⟨⟨rfl, hf⟩, ha⟩

/-- A command that is no request's row on a state with a request to serve, and a service due on an empty queue of commands. -/
theorem witness_EveryCommandCompletes : Instr.outputTick ≠ .powerOnReset ∧ (∀ r : Request, r.service ≠ .outputTick) ∧
    (asked 1 [18, 0] up).pending = [] ∧ (asked 1 [18, 0] up).oldest (request 1 [18, 0]) [] := by
  refine ⟨by decide, fun r h => ?_, rfl, rfl, by decide⟩
  unfold Request.service at h
  split at h <;> first | contradiction | (split at h <;> contradiction)

theorem witness_StepRunsFrontCommand : ({ up with pending := [.clockReturn, .outputTick] }).pending = .clockReturn :: [.outputTick] := rfl

/-- A state far from reset that keeps every law: UP and FULL, a frame on the LEFT panel, a queued pair, sample, history entry and NOTICE. -/
def lawful : State :=
  { lit with
    events := ⟨1, 1, true, false, true⟩
    frames := { lit.frames with slots := lit.frames.slots.set 0 ⟨.showing, some 9, some 100, true, [0], [], 3⟩, dram := [(5, 1), (9, 2)] }
    scanout := { lit.scanout with left := { Panel.default with power := .on, shown := 500, window := some ⟨0, 64, 64⟩ } }
    report := { lit.report with queue := [⟨8, 1, 0⟩] }
    sender := ⟨.notice, some .fill⟩
    pose := ⟨7, 8, some 0, [⟨0, 7, 8⟩]⟩
    sound := { lit.sound with queueA := ⟨.priming, [⟨1, 2⟩], 0, none, false⟩ } }

theorem lawful_frames : DramLaw lawful ∧ FrameLaw lawful := by
  refine ⟨by unfold DramLaw; decide, ?_⟩
  unfold FrameLaw SlotRecordLaw
  decide

theorem lawful_queues : QueueLaw lawful := by unfold QueueLaw; decide
theorem lawful_events : NoticeLaw lawful := by unfold NoticeLaw; decide
theorem lawful_stance : StanceLaw lawful := by refine ⟨by decide, ⟨rfl, rfl⟩, by decide, by decide, by decide, by decide⟩
theorem lawful_pose : PoseLaw lawful := ⟨by decide, rfl, by decide, by decide⟩

theorem lawful_scanout : ScanoutLaw lawful := by
  refine ⟨⟨by decide, by decide, by decide, by decide, by decide, by decide, ?_, by decide⟩,
    ⟨by decide, by decide, by decide, by decide, by decide, by decide, ?_, by decide⟩, by decide⟩
  · rintro w h
    cases h
    decide
  · rintro w h
    cases h

theorem lawful_silence : SilenceLaw lawful := by unfold SilenceLaw PlayoutLaw; decide
theorem lawful_link : LinkLaw lawful := by unfold LinkLaw; decide

theorem lawful_tables : TableLaw lawful :=
  ⟨by decide, by decide, by decide, by decide, by decide, by rintro (_ | _) <;> decide, by rintro (_ | _) <;> decide, by decide, by decide,
    by decide, by decide, by decide⟩

theorem lawful_sense : SenseLaw lawful := by
  refine ⟨⟨by decide, by decide, by decide, ?_, by decide, by decide⟩, ⟨by decide, by decide, by decide, ?_, by decide, by decide⟩, ?_, ?_⟩
  · rintro p h
    cases h
  · rintro p h
    cases h
  · rintro (_ | _) (_ | _) h <;> cases h
  · rintro (_ | _) u h <;> cases h

/-- The witness of the laws that every step keeps. -/
theorem witness_DeviceLaw : DeviceLaw lawful ∧ ∃ t, step lawful = .next t :=
  ⟨⟨lawful_frames.1, lawful_frames.2, lawful_queues, lawful_events, lawful_stance, lawful_pose, lawful_scanout, lawful_silence,
    lawful_link, lawful_tables, lawful_sense⟩, ⟨_, rfl⟩⟩

theorem witness_CellRoundTrip : (Instr.sound 1 [(1, -1)]).wellFormed = true ∧
    encodeCell (.sound 1 [(1, -1)]) = some (cellBytes 4 1 [1, 0, 0, 0xFF, 0xFF, 0xFF]) := by decide

/-- A header byte, and the last byte of the payload check. -/
theorem witness_SingleByteErrorsCaught : (Instr.picClose 1 9).wellFormed = true ∧
    encodeCell (.picClose 1 9) = some (cellBytes 3 1 [9, 0]) ∧ (cellBytes 3 1 [9, 0]).length = 14 ∧
    (cellBytes 3 1 [9, 0])[0]? ≠ some 4 ∧ (cellBytes 3 1 [9, 0])[13]? ≠ some 0 := by decide

theorem witness_GainCoefficients : 0 ≤ 191 ∧ 191 ≤ 191 ∧ 191 ≤ 192 ∧ 192 ≤ 192 := by decide

theorem witness_RoundingAndScaling : 0 < 2 ∧ 2 * |(2 : Int) * roundDiv (-9) 2 - -9| = 2 ∧ (gained 5 0).gain = 0 := by decide

theorem witness_ResetCell : State.reset.receiving = true ∧ (1 : Fin 32) ≠ 0 := by decide
theorem witness_HoldExpiryResets : lost.link.state = .lost ∧ lost.timeRuns = true ∧ lost.link.hold = some 250000 := by decide

theorem witness_RecoveredClock : up.link.clockPresent = true ∧ [1#8] ≠ [] ∧ up.receiving = true ∧
    (after (.clockAbsent []) up).link.clockPresent = false ∧ (after (.clockAbsent []) up).link.clockLoss = some 0 ∧
    (after (.clockAbsent []) (withLink .down 0 up)).link.clockPresent = false ∧
    (after (.clockAbsent []) (withLink .training 0 up)).link.clockLoss = some 0 ∧ (after (.clockAbsent []) lost).link.clockLoss = some 0 := by
  decide

/-- FALLBACK. -/
def fallen : State := { up with clock := { up.clock with source := .fallback }, cause := ⟨.powerOn, true⟩ }

theorem witness_CrystalWatch : up.clock.crystalPresent = true ∧ (after .crystalAbsent up).clock.watch = some 0 ∧
    fallen.clock.source = .fallback ∧ fallen.cause.fallback = true ∧ Instr.clockReturn ≠ .powerOnReset ∧
    exec .clockReturn fallen = .next fallen :=
  ⟨by decide, by decide, by decide, by decide, by decide, rfl⟩

theorem witness_ReceiverCountsHeaders : up.receiving = true ∧ (withLink .down 0 up).receiving = false ∧
    up.discardOf (cellBytes 3 0 [1]) = some .runt ∧ up.discardOf (cellBytes 7 0 []) = some .unknownKind ∧
    up.discardOf (cellBytes 6 0 [] |>.set 7 0) = some .badHeader ∧ up.discardOf ((cellBytes 3 0 [1, 2]).set 13 0) = some .badPayload ∧
    (withLink .training 7 up).receiving = true ∧ (withLink .training 6 up).receiving = true ∧ lost.receiving = true ∧
    (withLink .lost 7 lost).receiving = true ∧ up.link.badRun < 3 ∧ 3 ≤ ({ up with link := { up.link with badRun := 3 } }).link.badRun ∧
    (withLink .training 7 up).opensLane = true ∧ (withLink .lost 7 lost).opensLane = true ∧ (withLink .training 6 up).opensLane = false ∧
    [1#8, 2#8].length < 8 := by decide

theorem witness_CellsCountedOnce : filling.receiving = true ∧ filling.handedStream (.picClose 1 9) = some 1 ∧
    filling.handedStream (.picClose 2 9) = some 2 ∧ admitsCell (.picClose 2 9) filling.streams[2] = false := by decide

/-- Stream 1 carries pictures and no slot is free: two are taken, one has a write outstanding. -/
def crowded : State :=
  { filling with frames := { filling.frames with
      slots := #v[FrameSlot.emptied, ⟨.showing, some 1, some 1, false, [], [], 0⟩, ⟨.ready, some 2, some 1, false, [], [], 0⟩] } }

theorem witness_PicOpenTakesSlot : filling.receiving = true ∧ admitsKind .picture filling.streams[1] = true ∧
    filling.slotIn .filling = some 0 ∧ (streamOne .picture .full up).slotIn .filling = none ∧
    admitsKind .picture (streamOne .picture .full up).streams[1] = true ∧ (streamOne .picture .full up).slotFree 0 = true ∧
    crowded.slotIn .filling = none ∧ crowded.slotFree 0 = false ∧ crowded.slotFree 1 = false ∧ crowded.slotFree 2 = false := by decide

/-- A LEFT panel of one rendered column and 17 rows: no write can make one (R63), but the statements hold of every record. -/
def narrow : State :=
  { filling with scanout := { filling.scanout with left := { Panel.default with width := 1, height := 17, marginH := 0, marginV := 0 } } }

/-- The first and the last band of a panel of two bands, a stray band, and a runt. -/
theorem witness_PicBandIssuesWrite : narrow.receiving = true ∧ admitsKind .picture narrow.streams[1] = true ∧
    bandRowsFit (List.replicate 48 0) = true ∧ narrow.bandLengthOk 0 0 (List.replicate 48 0) = true ∧
    narrow.bandLengthOk 0 1 [1, 2, 3] = true ∧ narrow.slotIn .filling = some 0 ∧ narrow.frames.slots[0].frame = some 9 ∧
    eyeOf 0 = some .left ∧ (0#8).toNat < (narrow.panel .left).bandCount ∧ (1#8).toNat < (narrow.panel .left).bandCount ∧
    narrow.bandLengthOk 0 2 [] = true ∧ ¬ (2#8).toNat < (narrow.panel .left).bandCount ∧ eyeOf 2 = none ∧
    narrow.bandLengthOk 0 1 [1] = false := by decide

/-- A frame with every band of two eyes of two bands, and without writes outstanding. -/
def complete : State := { narrow with
  scanout := { narrow.scanout with right := narrow.scanout.left }
  frames := { narrow.frames with
    slots := #v[⟨.filling, some 9, some 100, false, [0, 1], [0, 1], 0⟩, ⟨.closing, some 8, some 90, false, [], [], 0⟩,
      ⟨.ready, some 7, some 80, false, [], [], 0⟩]
    writes := [] } }

theorem witness_PicCloseCloses : filling.slotIn .filling = some 0 ∧ filling.frames.slots[0].frame = some 9 ∧ filling.outstanding 0 ≠ 0 ∧
    complete.receiving = true ∧ admitsKind .picture complete.streams[1] = true ∧ complete.slotIn .filling = some 0 ∧
    complete.frames.slots[0].frame = some 9 ∧ complete.outstanding 0 = 0 ∧ complete.slotIn .closing = some 1 ∧
    crowded.slotIn .filling = none := by decide

theorem witness_BandsComplete : BandsComplete complete.frames.slots[0] complete ∧ ¬ BandsComplete complete.frames.slots[1] complete := by
  unfold BandsComplete
  decide

/-- A slot's only write into its FILLING frame; and the last write of a CLOSING slot, behind a write of another slot. -/
theorem witness_BandWriteCompletes : filling.frames.writes = [] ++ ⟨0, .left, 2, 9, 208896, [0xAA, 0xBB]⟩ :: [] ∧
    filling.frames.slots[0].phase = .filling ∧
    ∀ w v : BandWrite, w.slot = 0 → v.slot = 1 → ({ complete with frames := { complete.frames with writes := [w, v] } }).frames.writes =
      [w] ++ v :: [] ∧ (∀ x ∈ [w], x.slot ≠ 1) ∧ complete.frames.slots[1].phase = .closing := by
  refine ⟨rfl, rfl, fun w v hw hv => ⟨rfl, ?_, rfl⟩⟩
  intro x hx
  rw [List.mem_singleton.1 hx, hw]
  decide

theorem witness_SoundFillsQueue : let s := streamOne .sound .full full
    s.receiving = true ∧ soundPairsFit [(1, -1)] = true ∧ admitsKind .sound s.streams[1] = true ∧
    (after (.fill 0) s).soundBarred = false ∧ (s.playout .a).pairs.length ≤ 1024 ∧
    (after (.fill 0) (streamOne .sound .full up)).soundBarred = true := by decide

theorem witness_SoundFillsQueue_law : PlayoutLaw 256 Playout.emptied := by unfold PlayoutLaw; decide

theorem witness_AskJoinsQueue : up.receiving = true ∧ askOperandsFit [] = true ∧ admitsKind .ask up.streams[0] = true ∧
    up.mgmt.requests.length < 8 ∧ up.served ∧ crammed.served ∧ crammed.receiving = true ∧ admitsKind .ask crammed.streams[0] = true ∧
    8 ≤ crammed.mgmt.requests.length := by decide

/-- A queue at each clause of R85 and R86. -/
theorem witness_OutputTickMixes : full.timeRuns = true ∧ Playout.emptied.phase = .idle ∧ dry.phase = .playing ∧ dry.pairs = [] ∧
    ({ dry with pairs := [⟨1, 2⟩] }).pairs = ⟨1, 2⟩ :: [] ∧ dry.tick.1.phase = .priming ∧ dry.tick.1.fade ≠ 0 ∧ dry.tick.1.fade ≤ 31 ∧
    ({ dry with phase := .priming, fade := 31 }).fade = 31 ∧ ({ dry with phase := .priming }).fade = 0 := by decide

/-- Queue A above the high slip, and below the low slip; queue B idle. -/
theorem witness_SlipCheckTrims : let s (n : Nat) : State := { full with sound := { full.sound with
      slipDue := true
      audio := { full.sound.audio with slipLow := 1, slipHigh := 2, startA := 2 }
      queueA := ⟨.playing, List.replicate n ⟨1, 2⟩, 0, none, false⟩ } }
    (s 3).sound.slipDue = true ∧ (s 3).sound.audio.slipHigh < ((s 3).playout .a).pairs.length ∧
    0 < ({ full.sound with queueA := ⟨.playing, [⟨1, 2⟩], 0, none, false⟩ }).queueA.pairs.length ∧
    1 < full.sound.audio.slipLow ∧ ((s 3).playout .b).phase ≠ .playing := by decide

theorem witness_MicrophoneSampleCaptured : full.timeRuns = true ∧
    ¬ (full.sound.audio.captureEnable = true ∧ full.stance.voice = true) ∧
    ({ full with sound := { full.sound with audio := { full.sound.audio with captureEnable := true } } }).sound.audio.captureEnable = true ∧
    full.stance.voice = true ∧ full.sound.capture.length < 1024 := by decide

/-- FULL, capture enabled and the Capture Queue full. -/
def captured : State :=
  { full with sound := { full.sound with
      audio := { full.sound.audio with captureEnable := true }
      capture := List.replicate 1024 ⟨1, 2⟩ } }

theorem witness_MicrophoneSampleCaptured_full : captured.timeRuns = true ∧ captured.sound.audio.captureEnable = true ∧
    captured.stance.voice = true ∧ 1024 ≤ captured.sound.capture.length :=
  ⟨by decide, rfl, by decide, by rw [captured, List.length_replicate]⟩

theorem witness_RefusedChangesNothing : (asked 0x40 [] up).oldest (request 0x40 []) [] ∧
    (after .read (asked 0x40 [] up)).mgmt.answers = (asked 0x40 [] up).mgmt.answers ++ [(request 0x40 []).refusal .unknown none] ∧
    ((request 0x40 []).refusal .unknown none).status ≠ .done := ⟨⟨rfl, by decide⟩, by decide, by decide⟩

/-- An undefined operation, an undefined table, and for each operation with operands one byte too few. -/
theorem witness_RefusedChangesNothing_unknown : (request 0x40 []).undefinedOrShort ∧ (request 1 [19, 0]).undefinedOrShort ∧
    (request 2 [1, 0, 1, 0, 0]).undefinedOrShort ∧ (request 3 [0, 0]).undefinedOrShort ∧ (request 0x13 [0, 0, 0]).undefinedOrShort ∧
    (request 0x14 []).undefinedOrShort ∧ (request 0x22 [1]).undefinedOrShort ∧ ¬ (request 0x31 []).undefinedOrShort ∧
    (asked 0x22 [1] up).atService (request 0x22 [1]) [] := by
  refine ⟨?_, ?_, ?_, ?_, ?_, ?_, ?_, ?_, atService_asked _ _ _ (by decide) (by decide)⟩ <;> (unfold Request.undefinedOrShort; decide)

/-- A stream of each kind: not ASK, LIMITED, FULL; and masks at the edges of Table 8-4's fields. -/
theorem witness_AccessCheckedFirst : ({ up with mgmt := ⟨[⟨1, 7, 1, []⟩], [], none⟩ }).oldest ⟨1, 7, 1, []⟩ [] ∧
    up.streams[1].enabled = false ∧ (streamOne .ask .limited up).streams[1].access = .limited ∧ (0x14#8) ∉ [0x01#8, 0x02#8, 0x03#8, 0x10#8] ∧
    (request 1 [19]).table = none ∧ (request 2 [3, 0, 1]).table = some .panels ∧ (request 2 [3, 0, 1]).operands.length < 6 ∧ (request 2 [0]).table = some .streams ∧
    (request 2 ([3, 0] ++ le 4 0x80)).table = some .panels ∧ (request 2 ([3, 0] ++ le 4 0x80)).mask = some 0x80 ∧
    (request 2 ([5, 0] ++ le 4 0x100)).mask = some 0x100 ∧ (request 2 ([5, 0] ++ le 4 0x90)).mask = some 0x90 :=
  ⟨⟨rfl, by decide⟩, by decide⟩

theorem witness_ReadAnswersEntry : (asked 1 [18, 0] up).atService (request 1 [18, 0]) [] ∧ tableOf 18 = some .cause ∧
    (0#8).toNat < Table.entries .cause ∧ Table.entries .cause ≤ (1#8).toNat ∧ 19 ≤ (19#8).toNat ∧
    (asked 1 [11, 0] up).atService (request 1 [11, 0]) [] ∧ up.sense.snapshot.taken = true ∧
    (asked 1 [18] up).atService (request 1 [18]) [] ∧ (request 1 [18]).operands.length < 2 ∧ (request 1 [18]).table ≠ some .snapshot :=
  ⟨atService_asked _ _ _ (by decide) (by decide), by decide, by decide, by decide, by decide,
    atService_asked _ _ _ (by decide) (by decide), by decide, atService_asked _ _ _ (by decide) (by decide), by decide, by decide⟩

/-- SLOW HELD with hold yes and its snapshot untaken. -/
def held : State :=
  { full with sense := { full.sense with
      slow := { full.sense.slow with hold := true, phase := .held }
      snapshot := ⟨0, [], false⟩ } }

/-- A READ of SNAPSHOT without its index, and one that marks the record taken while SLOW is not HELD. -/
theorem witness_ReadAnswersEntry_snapshot : (asked 1 [11] up).atService (request 1 [11]) [] ∧ (request 1 [11]).operands.length < 2 ∧
    (let s : State := { held with sense := { held.sense with slow := { held.sense.slow with phase := .armed } } }
     (asked 1 [11, 0] s).atService (request 1 [11, 0]) [] ∧ s.sense.snapshot.taken = false ∧ s.sense.slow.phase ≠ .held) :=
  ⟨atService_asked _ _ _ (by decide) (by decide), by decide, atService_asked _ _ _ (by decide) (by decide), by decide⟩

theorem witness_ReadAnswersEntry_held : (asked 1 [11, 0] held).atService (request 1 [11, 0]) [] ∧ held.sense.snapshot.taken = false ∧
    held.sense.slow.phase = .held ∧ held.members .slow ≠ [] :=
  ⟨atService_asked _ _ _ (by decide) (by decide), by decide⟩

/-- An offset and length past ALIGN, past RANGE by 4, and at its end. -/
theorem witness_DescReadAnswersBytes : (asked 3 [2, 0, 4] up).oldest (request 3 (le 2 (2#16).toNat ++ 4 :: [])) [] ∧
    up.streams[0].enabled = true ∧ up.streams[0].accepts = .ask ∧ (2#16).toNat % 4 ≠ 0 ∧ 384 < (240#16).toNat + (148#8).toNat ∧
    (240#16).toNat + (144#8).toNat ≤ 384 ∧ 4 ≤ (4#8).toNat ∧ (240#8).toNat ≤ 240 :=
  ⟨⟨rfl, by decide⟩, by decide⟩

/-! #### WRITEs -/

/-- A WRITE's operands: a table's position, an entry, a mask and the slots. -/
def wrote (table index : Nat) (mask : BitVec 32) (image : List Slot) : List Byte := writeOperands table index mask image []

theorem witness_WriteRefusals : Table.writableSlots .report ≠ 0 ∧ ([0, 0] : List Slot).length = Table.writableSlots .report ∧
    allTables.idxOf Table.report = 6 ∧ (asked 2 (wrote 6 0 4 [0, 0]) up).atService (request 2 (wrote 6 0 4 [0, 0])) [] ∧
    (4#32).getLsbD 2 = true ∧ Table.allSlots .report ≤ 2 ∧ Table.allSlots .scanout = 3 ∧ Table.writableSlots .scanout ≤ 2 ∧
    Table.entries .report ≤ (1#8).toNat ∧ Table.writableSlots .cause = 0 ∧
    (asked 2 (wrote 18 0 2 []) up).atService (request 2 (wrote 18 0 2 [])) [] ∧ up.fieldCount .cause = 2 ∧
    (asked 2 [6, 0] up).atService (request 2 [6, 0]) [] ∧ (request 2 [6, 0]).table = some .report :=
  ⟨by decide, by decide, by decide, atService_asked _ _ _ (by decide) (by decide), by decide, by decide, by decide, by decide, by decide,
    by decide, atService_asked _ _ _ (by decide) (by decide), by decide, atService_asked _ _ _ (by decide) (by decide), by decide⟩

/-- A ramp time of 15 is out of its range, with an admitted field below it. -/
theorem witness_WriteRefusals_range : (asked 2 (wrote 8 0 3 [5, 15]) up).atService (request 2 (wrote 8 0 3 [5, 15])) [] ∧
    allTables.idxOf Table.stanceLimits = 8 ∧ (0#8).toNat < Table.entries .stanceLimits ∧ (3#32).getLsbD 1 = true ∧
    outOfRange .stanceLimits 0 1 (([5, 15] : List Slot).getD 1 0) = true ∧
    outOfRange .stanceLimits 0 0 (([5, 15] : List Slot).getD 0 0) = false :=
  ⟨atService_asked _ _ _ (by decide) (by decide), by decide⟩

theorem witness_WriteRefusals_readOnly : ReadOnlyField .streams 0 0 ∧ ¬ ReadOnlyField .streams 1 3 ∧ ReadOnlyField .streams 1 4 ∧
    ReadOnlyField .stances 3 3 ∧ ¬ ReadOnlyField .stances 3 2 := by
  unfold ReadOnlyField
  decide

theorem witness_WriteStreams : (1 : Fin 32) ≠ 0 ∧ (15#32).toNat < 2 ^ 4 ∧
    (asked 2 (wrote 0 1 15 [1, 1, 0, 0]) up).atService (request 2 (wrote 0 1 15 [1, 1, 0, 0])) [] ∧
    wrote 0 1 15 [1, 1, 0, 0] = writeOperands 0 1 15 (maskedImage 15 [slotBool true, slotNat Accepts.picture.code, slotNat Sink.a.code,
      slotNat Access.full.code] []) [] ∧
    admitsKind .picture (streamOne .picture .full up).streams[1] = true ∧ admitsKind .picture (defaultStream 1) = false :=
  ⟨by decide, by decide, atService_asked _ _ _ (by decide) (by decide), by decide, by decide, by decide⟩

theorem witness_WriteStreams_fit : StreamsFit (up.streams.set 1 ⟨true, .picture, .a, .full, 0, 0⟩) ∧
    ¬ StreamsFit ((streamOne .picture .full up).streams.set 2 ⟨true, .picture, .a, .full, 0, 0⟩) := by
  refine ⟨by unfold StreamsFit; decide, fun h => absurd (h.1 1 2 (by decide) (by decide)) (by decide)⟩

/-- Slot 3 written whole; the range bounds at their ends. -/
theorem witness_WriteChannels : (0x3FF#32).toNat < 2 ^ 10 ∧ (-32768 : Int) ≤ -32768 ∧ (32767 : Int) ≤ 32767 ∧ 65535 ≤ 65535 ∧
    (asked 2 (wrote 1 3 1 [2, 0, 0, 0, 0, 0, 0, 0, 0, 0]) up).atService (request 2 (wrote 1 3 1 [2, 0, 0, 0, 0, 0, 0, 0, 0, 0])) [] :=
  ⟨by decide, by decide, by decide, by decide, atService_asked _ _ _ (by decide) (by decide)⟩

theorem witness_WriteChannels_fit : ChannelsFit up.sense.channels ∧
    ¬ ChannelsFit (yawed.sense.channels.set 2 ⟨some 1, .fast, .yaw, false, 0, 4096, .off, 0, 0, 1⟩) ∧ up.stoppedGroup .fast ∧
    ¬ up.stoppedGroup .slow := by
  refine ⟨by unfold ChannelsFit; decide, fun h => absurd (h.1 1 2 (by decide) (by decide)) (by decide), ?_, ?_⟩
  · unfold State.stoppedGroup
    decide
  · unfold State.stoppedGroup
    decide

theorem witness_WriteGroups : (15#32).toNat < 2 ^ 4 ∧ (15#32).getLsbD 3 = true ∧ (up.group .slow).phase ≠ .stopped ∧
    (up.group .fast).phase = .stopped ∧ (asked 2 (wrote 2 0 4 [0, 0, 10, 0]) up).atService (request 2 (wrote 2 0 4 [0, 0, 10, 0])) [] ∧
    (asked 2 (wrote 2 1 4 [0, 0, 10, 0]) up).atService (request 2 (wrote 2 1 4 [0, 0, 10, 0])) [] :=
  ⟨by decide, by decide, by decide, by decide, atService_asked _ _ _ (by decide) (by decide), atService_asked _ _ _ (by decide) (by decide)⟩

theorem witness_WritePanels : (0x1FF#32).toNat < 2 ^ 9 ∧ 1024 ≤ 2304 ∧ 2304 % 16 = 0 ∧ 1024 % 16 = 0 ∧ (0x1F0#32).toNat % 16 = 0 ∧
    (1#32).toNat % 16 ≠ 0 ∧ ¬ (lit.scanout.left.power = .off ∧ lit.scanout.right.power = .off) ∧
    (up.scanout.left.power = .off ∧ up.scanout.right.power = .off) ∧
    (asked 2 (wrote 3 0 1 [1024, 0, 0, 0, 0, 0, 0, 0, 0]) lit).atService (request 2 (wrote 3 0 1 [1024, 0, 0, 0, 0, 0, 0, 0, 0])) [] :=
  ⟨by decide, by decide, by decide, by decide, by decide, by decide, by decide, by decide, atService_asked _ _ _ (by decide) (by decide)⟩

theorem witness_WriteScanout : (3#32).toNat < 2 ^ 2 ∧ (2#32).getLsbD 1 = true ∧ (1#32).getLsbD 1 = false ∧
    ¬ (lit.scanout.left.power = .off ∧ lit.scanout.right.power = .off) ∧
    (asked 2 (wrote 4 0 2 [0, 72]) lit).atService (request 2 (wrote 4 0 2 [0, 72])) [] :=
  ⟨by decide, by decide, by decide, by decide, atService_asked _ _ _ (by decide) (by decide)⟩

theorem witness_WriteAudio : (0x1FF#32).toNat < 2 ^ 9 ∧ 1 ≤ 1023 ∧ 1022 ≤ 1022 ∧ 2 ≤ 1024 ∧
    (asked 2 (wrote 5 0 4 [0, 0, 256, 0, 0, 0, 0, 0, 0]) up).atService (request 2 (wrote 5 0 4 [0, 0, 256, 0, 0, 0, 0, 0, 0])) [] ∧
    ¬ (256 < up.sound.audio.startA) ∧ up.sound.audio.slipLow < up.sound.audio.startA ∧ up.sound.audio.startA < up.sound.audio.slipHigh ∧
    up.captureActive = false :=
  ⟨by decide, by decide, by decide, by decide, atService_asked _ _ _ (by decide) (by decide), by decide, by decide, by decide, by decide⟩

theorem witness_WriteReportAndLimits : (3#32).toNat < 2 ^ 2 ∧ (asked 2 (wrote 6 0 3 [0, 0]) up).atService (request 2 (wrote 6 0 3 [0, 0])) [] ∧
    (asked 2 (wrote 8 0 2 [0, 1010]) up).atService (request 2 (wrote 8 0 2 [0, 1010])) [] ∧ (2#32).getLsbD 1 = true ∧
    1000 < (1010#32).toNat ∧ (1000#32).toNat ≤ 1000 ∧ (1000#32).toNat % 10 = 0 ∧ (15#32).toNat % 10 ≠ 0 :=
  ⟨by decide, atService_asked _ _ _ (by decide) (by decide), atService_asked _ _ _ (by decide) (by decide), by decide⟩

/-- A ramp in progress toward FULL. -/
def ramping : State := { full with power := { full.power with cap := 0, floor := 192, ramp := some ⟨0, 192, 1023, 0, 5, 3⟩ } }

theorem witness_WriteStances : (0x7F#32).toNat < 2 ^ 7 ∧ (7#32).toNat < 2 ^ 3 ∧ (0 : Fin 4) ≠ 3 ∧
    (asked 2 (wrote 7 0 1 [800, 0, 0, 0, 0, 0, 0]) ramping).atService (request 2 (wrote 7 0 1 [800, 0, 0, 0, 0, 0, 0])) [] ∧
    (asked 2 (wrote 7 0 1 [800, 0, 0, 0, 0, 0, 0]) full).atService (request 2 (wrote 7 0 1 [800, 0, 0, 0, 0, 0, 0])) [] ∧
    (0 : Fin 4).val = ramping.power.inEffect.rank ∧ ramping.power.ramp.isSome ∧ full.power.ramp = none ∧
    (1 : Fin 4).val ≠ full.power.inEffect.rank :=
  ⟨by decide, by decide, by decide, atService_asked _ _ _ (by decide) (by decide), atService_asked _ _ _ (by decide) (by decide), by decide⟩

theorem witness_WriteRules : (7#32).toNat < 2 ^ 3 ∧
    (asked 2 (wrote 9 2 7 [1, 3, 1]) full).atService (request 2 (wrote 9 2 7 [1, 3, 1])) [] :=
  ⟨by decide, atService_asked _ _ _ (by decide) (by decide)⟩

/-- Each clause of an evaluation: a target equal to, above and below the stance in effect. -/
theorem witness_Evaluated : full.target = full.power.inEffect ∧
    ({ full with power := { full.power with active := 1 } }).power.inEffect.rank < ({ full with power := { full.power with active := 1 } }).target.rank ∧
    ({ up with power := { up.power with ordered := .full } }).target.rank < up.power.inEffect.rank ∧ up.power.rampTime ≠ 0 := by decide

/-! #### Event, group, slot, stance and counter operations -/

theorem witness_EventsClear : (asked 0x10 (le 4 (1#21).toNat) up).atService (request 0x10 (le 4 (1#21).toNat ++ [])) [] :=
  atService_asked _ _ _ (by decide) (by decide)

theorem witness_EventsEnableDisable : (asked 0x11 (le 4 (1#21).toNat) up).atService (request 0x11 (le 4 (1#21).toNat)) [] ∧
    (asked 0x12 (le 4 (1#21).toNat) up).atService (request 0x12 (le 4 (1#21).toNat)) [] ∧ 2 ^ 21 ≤ (0x200000#32).toNat ∧
    (asked 0x13 (le 4 (0x200000#32).toNat) up).atService (request 0x13 (le 4 (0x200000#32).toNat)) [] ∧ up.events.lock = false :=
  ⟨atService_asked _ _ _ (by decide) (by decide), atService_asked _ _ _ (by decide) (by decide), by decide,
    atService_asked _ _ _ (by decide) (by decide), by decide⟩

theorem witness_GateOpensAndCloses : (asked 0x14 [1] up).atService (request 0x14 [1]) [] ∧ (1#8).toNat ≤ 1 ∧ 2 ≤ (2#8).toNat ∧
    (asked 0x14 [0] up).events.gateOpen = decide (0#8 = 1#8) :=
  ⟨atService_asked _ _ _ (by decide) (by decide), by decide⟩

theorem witness_GateOpensAndCloses_law : NoticeLaw (asked 0x14 [0] up) := by
  unfold NoticeLaw
  decide

theorem witness_InjectionAndLock : (asked 0x13 (le 4 (1#21).toNat) up).atService (request 0x13 (le 4 (1#21).toNat)) [] ∧ up.events.lock = false ∧
    (asked 0x15 [] up).atService (request 0x15 []) [] ∧ (after .lockLive (asked 0x15 [] up)).events.lock = true ∧
    Instr.clockReturn ≠ .powerOnReset ∧ exec .clockReturn up = .next up :=
  ⟨atService_asked _ _ _ (by decide) (by decide), by decide, atService_asked _ _ _ (by decide) (by decide), by decide, by decide, rfl⟩

/-- FAST ARMED with trigger ORDER and one motion slot. -/
def ordering : State :=
  { bursting with sense := { bursting.sense with
      port := none
      fast := { bursting.sense.fast with phase := .armed, trigger := .order, timer := none, pass := none } } }

theorem witness_GroupStartStop : (asked 0x20 [0] up).atService (request 0x20 [0]) [] ∧ up.stance.fast = false ∧ full.stance.fast = true ∧
    (full.group .fast).phase = .stopped ∧ (bursting.group .fast).phase = .passing ∧ (held.group .slow).phase = .held ∧
    (asked 0x20 [0] ordering).atService (request 0x20 [0]) [] ∧ (ordering.group .fast).trigger = .order ∧ (ordering.group .fast).pass = none ∧
    ordering.members .fast ≠ [] ∧ (asked 0x21 [1] up).atService (request 0x21 [1]) [] ∧ (up.group .slow).phase ≠ .stopped ∧
    2 ≤ (2#8).toNat ∧ (asked 0x21 [2] up).atService (request 0x21 [2]) [] :=
  ⟨atService_asked _ _ _ (by decide) (by decide), by decide, by decide, by decide, by decide, by decide,
    atService_asked _ _ _ (by decide) (by decide), by decide, by decide, by decide, atService_asked _ _ _ (by decide) (by decide), by decide,
    by decide, atService_asked _ _ _ (by decide) (by decide)⟩

theorem witness_SlotClears : (asked 0x22 (le 2 (0x100#16).toNat) up).atService (request 0x22 (le 2 (0x100#16).toNat)) [] ∧
    (asked 0x23 (le 2 (0x100#16).toNat) up).atService (request 0x23 (le 2 (0x100#16).toNat)) [] :=
  ⟨atService_asked _ _ _ (by decide) (by decide), atService_asked _ _ _ (by decide) (by decide)⟩

theorem witness_StanceOrder : (asked 0x30 [0] up).atService (request 0x30 (le 1 Stance.full.rank)) [] ∧ up.power.ramp = none ∧
    ({ up with power := { up.power with ordered := .full } }).target.rank < up.power.inEffect.rank ∧ up.power.rampTime ≠ 0 ∧
    (asked 0x30 [3] full).atService (request 0x30 (le 1 Stance.standby.rank)) [] ∧
    full.power.inEffect.rank ≤ ({ full with power := { full.power with ordered := .standby } }).target.rank ∧
    (asked 0x30 [0] ramping).atService (request 0x30 (le 1 Stance.full.rank)) [] ∧ ramping.power.ramp.isSome ∧ 4 ≤ (4#8).toNat ∧
    (asked 0x30 [4] up).atService (request 0x30 [4]) [] :=
  ⟨atService_asked _ _ _ (by decide) (by decide), by decide, by decide, by decide, atService_asked _ _ _ (by decide) (by decide), by decide,
    atService_asked _ _ _ (by decide) (by decide), by decide, by decide, atService_asked _ _ _ (by decide) (by decide)⟩

theorem witness_CountersClear : (asked 0x31 [] up).atService (request 0x31 []) [] ∧
    ({ streamOne .ask .limited up with mgmt := ⟨[⟨1, 7, 0x31, []⟩], [], none⟩ }).oldest ⟨1, 7, 0x31, []⟩ [] ∧
    (streamOne .ask .limited up).streams[1].access = .limited :=
  ⟨atService_asked _ _ _ (by decide) (by decide), ⟨rfl, by decide⟩, by decide⟩

/-! #### Timed events -/

/-- FAST in mode STEP over two motion slots, ARMED again after the first, with the burst that serves both. -/
def stepping : State :=
  { bursting with sense := { bursting.sense with
      channels := bursting.sense.channels.set 1 ⟨some 1, .fast, .none, true, 0, 4096, .off, 0, 0, 1⟩
      fast := ⟨.step, .timer, 1000, false, .armed, 0, some (.after 0), some ⟨some 0, [0, 1], some ⟨⟨1, 2, 3, 4, 5, 6⟩, 0⟩⟩⟩
      port := none } }

/-- A group that takes the trigger in each of its states: ARMED, ARMED without member slots, PASSING, HELD, ARMED within a pass, STOPPED. -/
theorem witness_ScanTriggerStartsPass : full.timeRuns = true ∧ (full.group .slow).trigger = .timer ∧ full.triggerDue .slow = some 0 ∧
    (full.group .slow).phase = .armed ∧ (full.group .slow).pass = none ∧ full.members .slow = 8 :: [9, 10, 11] ∧
    (let s := after .groupStart (asked 0x20 [0] full); s.triggerDue .fast = some 0 ∧ (s.group .fast).phase = .armed ∧
      (s.group .fast).pass = none ∧ s.members .fast = []) ∧
    (bursting.group .fast).phase = .passing ∧ bursting.triggerDue .fast = some 1000 ∧
    (held.group .slow).phase = .held ∧ (held.triggerDue .slow).isSome ∧
    (stepping.group .fast).phase = .armed ∧ stepping.triggerDue .fast = some 1000 ∧
    stepping.servedAtOnce (some ⟨⟨1, 2, 3, 4, 5, 6⟩, 0⟩) .step [0, 1] = [0] ∧ [(0 : Fin 16), 1].Nodup := by decide

/-- FAST converts while SLOW waits to begin. -/
def converting : State :=
  { full with sense := { full.sense with
      channels := full.sense.channels.set 0 ⟨some 6, .fast, .none, true, 0, 4096, .off, 0, 0, 1⟩
      fast := ⟨.continuous, .timer, 1000, false, .passing, 0, some (.after 0), some ⟨some 0, [0], none⟩⟩
      converter := some ⟨.fast, 0⟩ } }

/-- A resource in use, one that a group waits for, one that no group waits for; and a trigger that will be held. -/
theorem witness_ArbitersAct : (converting.inUse .converter).isSome ∧ converting.inUse .port = none ∧
    converting.needs .fast ≠ some .port ∧ converting.needs .slow ≠ some .port ∧
    (let s : State := { converting with sense := { converting.sense with converter := none } }
     s.inUse .converter = none ∧ s.needs .fast = some .converter) ∧
    (held.sense.slow.hold = true ∧ held.sense.snapshot.taken = false) := by decide

/-- A pass of one motion slot; one of a motion slot before an analog slot; and one in mode STEP. -/
theorem witness_BurstCompletesMotionSlots : bursting.timeRuns = true ∧ bursting.sense.port = some ⟨.fast, 0⟩ ∧
    (bursting.group .fast).pass = some ⟨some 0, [0], none⟩ ∧ [(0 : Fin 16)].Nodup ∧
    bursting.servedAtOnce (some ⟨⟨1, 2, 3, 4, 5, 6⟩, 0⟩) .continuous [0] = [0] ∧
    bursting.servedAtOnce (some ⟨⟨1, 2, 3, 4, 5, 6⟩, 0⟩) .continuous [0, 8] = [0] ∧
    stepping.servedAtOnce (some ⟨⟨1, 2, 3, 4, 5, 6⟩, 0⟩) .step [0, 1] = [0] ∧
    stepping.servedAtOnce (some ⟨⟨1, 2, 3, 4, 5, 6⟩, 0⟩) .continuous [0, 1] = [0, 1] := by decide

theorem witness_ConversionCompletesSlot : converting.timeRuns = true ∧ converting.sense.converter = some ⟨.fast, 0⟩ ∧
    (converting.group .fast).pass = some ⟨some 0, 0 :: [], none⟩ ∧ converting.sense.channels[0].report = true ∧
    converting.report.queue.length < 512 ∧ full.sense.channels[8].report = false := by decide

/-- SLOW's pass stands at slot 8 with slots 9, 10 and 11 to go; it may bear hold yes. -/
theorem witness_ConversionCompletesSlot_more : let s := after (.scanTrigger .slow) full
    s.timeRuns = true ∧ s.sense.converter = some ⟨.slow, 0⟩ ∧ (s.group .slow).pass = some ⟨some 0, 8 :: [9, 10, 11], none⟩ ∧
    [(8 : Fin 16), 9, 10, 11].Nodup ∧ s.servedAtOnce none .continuous [9, 10, 11] = [] := by decide

theorem witness_AgeExpiryMakesReady : lawful.timeRuns = true ∧ lawful.report.expired = false ∧ lawful.report.queue = ⟨8, 1, 0⟩ :: [] := by
  decide

theorem witness_FrameLatchShows : lit.timeRuns = true ∧ lit.scanout.latchDue = some 11111 ∧ (lit.panel .right).power ≠ .on ∧
    (lit.panel .left).power = .on ∧ lit.slotIn .showing = some 0 ∧ lit.link.state = .up ∧ lit.clock.source = .crystal ∧
    (lit.group .fast).trigger ≠ .latch ∧ (lit.group .slow).trigger ≠ .latch ∧
    ({ lit with frames := full.frames }).slotIn .showing = none := by decide

/-- SLOW ARMED with trigger LATCH. -/
theorem witness_FrameLatchShows_latch : let s : State := { lit with sense := { lit.sense with
      slow := { lit.sense.slow with trigger := .latch, timer := none } } }
    (s.group .slow).trigger = .latch ∧ (s.group .slow).phase = .armed ∧ (s.group .slow).pass = none ∧ s.members .slow ≠ [] ∧
    (s.group .slow).hold = false := by decide

theorem witness_PanelSequences : starting.timeRuns = true ∧ (starting.panel .left).power = .starting ∧ starting.scanout.latchDue = none ∧
    lit.scanout.latchDue.isSome ∧
    (({ starting with scanout := { starting.scanout with left := { starting.scanout.left with power := .stopping } } }).panel .left).power =
      .stopping := by decide

/-- A check under a target in effect, with a ramp at its last but one and at its last step, and under a stale rule. -/
theorem witness_StanceCheckEvaluates : full.timeRuns = true ∧ ramping.power.ramp = some ⟨0, 192, 1023, 0, 5, 3⟩ ∧ 3 + 1 < 5 ∧ 5 ≤ 4 + 1 ∧
    full.power.ramp = none := by decide

theorem witness_CellBoundaryGrants : State.reset.link.state ≠ .up ∧ fallen.clock.source ≠ .crystal ∧ up.link.state = .up ∧
    up.clock.source = .crystal ∧ queued.report.motionReady = true ∧ lawful.report.motionReady = false ∧ lawful.ready .notice = true ∧
    lawful.ready .voice = false ∧ lawful.ready .answer = false ∧
    (∀ d ∈ lawful.sender.last.after.takeWhile (· != .notice), lawful.ready d = false) ∧
    up.report.motionReady = false ∧ up.ready .voice = false ∧ up.ready .answer = false ∧ up.ready .notice = false := by decide

theorem witness_CellBoundaryGrants_answer : let s := after .read (asked 1 [18, 0] up)
    s.report.motionReady = false ∧ s.ready .answer = true ∧ s.ready .voice = false := by decide

/-- The states that the witnesses of commands other than services start from are ones in which no request can be served. -/
theorem witness_served : ∀ s ∈ [State.reset, up, full, lost, filling, bursting, lit, lawful, starting, queued, fallen, crowded, narrow, complete,
    stepping, converting, held, ramping, crammed, streamOne .sound .full full], s.served := by decide

theorem witness_served_full : captured.served ∧ ¬ (asked 1 [18, 0] up).served := ⟨Or.inl rfl, by decide⟩

end Sys2Proof.Tests
end

/-! ### The parts of the state that a change leaves, read off one at a time -/

section
namespace Sys2Proof.Machine

theorem ChangesOnly.clock_eq {P : List Part} {s t : State} (h : ChangesOnly P s t) (hP : Part.clock ∉ P) : t.clock = s.clock := h _ hP
theorem ChangesOnly.channels_eq {P : List Part} {s t : State} (h : ChangesOnly P s t) (hP : Part.channels ∉ P) :
    t.sense.channels = s.sense.channels := h _ hP
theorem ChangesOnly.samples_eq {P : List Part} {s t : State} (h : ChangesOnly P s t) (hP : Part.samples ∉ P) :
    t.sense.samples = s.sense.samples := h _ hP
theorem ChangesOnly.snapshot_eq {P : List Part} {s t : State} (h : ChangesOnly P s t) (hP : Part.snapshot ∉ P) :
    t.sense.snapshot = s.sense.snapshot := h _ hP
theorem ChangesOnly.pose_eq {P : List Part} {s t : State} (h : ChangesOnly P s t) (hP : Part.pose ∉ P) : t.pose = s.pose := h _ hP
theorem ChangesOnly.enabled_eq {P : List Part} {s t : State} (h : ChangesOnly P s t) (hP : Part.enabled ∉ P) :
    t.events.enabled = s.events.enabled := h _ hP
theorem ChangesOnly.gate_eq {P : List Part} {s t : State} (h : ChangesOnly P s t) (hP : Part.gate ∉ P) :
    t.events.gateOpen = s.events.gateOpen := h _ hP

theorem ChangesOnly.group_eq {P : List Part} {s t : State} (h : ChangesOnly P s t) (hf : Part.fast ∉ P) (hs : Part.slow ∉ P)
    (g : ScanGroup) : t.group g = s.group g := by
  cases g
  · exact h _ hf
  · exact h _ hs

theorem ChangesOnly.inUse_eq {P : List Part} {s t : State} (h : ChangesOnly P s t) (hp : Part.port ∉ P) (hc : Part.converter ∉ P)
    (r : Resource) : t.inUse r = s.inUse r := by
  cases r
  · exact h _ hp
  · exact h _ hc

/-- A change that names no part of the Sense Engine leaves it as it was. -/
theorem ChangesOnly.sense_eq {P : List Part} {s t : State} (h : ChangesOnly P s t)
    (hP : ∀ p ∈ [Part.channels, .samples, .fast, .slow, .port, .converter, .snapshot], p ∉ P) : t.sense = s.sense := by
  have same := fun p hp => h p (hP p hp)
  simp only [List.mem_cons, List.not_mem_nil, or_false, forall_eq_or_imp, forall_eq, Part.same] at same
  obtain ⟨channels, samples, fast, slow, port, converter, snapshot⟩ := same
  generalize t.sense = a at *
  generalize s.sense = b at *
  cases a
  cases b
  simp_all

/-! ### What the Sense Engine's readings depend on -/

theorem State.members_congr {s t : State} (h : t.sense.channels = s.sense.channels) (g : ScanGroup) : t.members g = s.members g := by
  simp [State.members, h]

theorem State.takesBurst_congr {s t : State} (h : t.sense.channels = s.sense.channels) (k : Fin 16) :
    t.takesBurst k = s.takesBurst k := by
  simp [State.takesBurst, h]

theorem State.burstSample_congr {s t : State} (h : t.sense.channels = s.sense.channels) (b : HeldBurst) (k : Fin 16) :
    t.burstSample b k = s.burstSample b k := by
  simp [State.burstSample, h]

theorem State.servedAtOnce_congr {s t : State} (h : t.sense.channels = s.sense.channels) (b : Option HeldBurst) (mode : ScanMode)
    (todo : List (Fin 16)) : t.servedAtOnce b mode todo = s.servedAtOnce b mode todo := by
  simp [State.servedAtOnce, funext (State.takesBurst_congr h)]

theorem State.samplesAtOnce_congr {s t : State} (h : t.sense.channels = s.sense.channels) (b : Option HeldBurst)
    (ks : List (Fin 16)) : t.samplesAtOnce b ks = s.samplesAtOnce b ks := by
  cases b
  · rfl
  · simp [State.samplesAtOnce, funext (State.burstSample_congr h _)]

theorem State.needs_congr {s t : State} {g : ScanGroup} (hc : t.sense.channels = s.sense.channels) (hg : t.group g = s.group g) :
    t.needs g = s.needs g := by
  simp [State.needs, hc, hg]

/-! ### Samples completing one after another (R21, R22, R26, R27) -/

/-- A sample of corrected value `e.value` completes on slot `e.slot` (R21). -/
def State.takeSample (e : SampleEntry) (s : State) : State :=
  let old := s.sense.samples[e.slot]
  let new := old.take s.sense.channels[e.slot] e.value e.time
  let t := (s.setSample e.slot new).raiseIf (new.sticky && !old.sticky) .rangeAlarm
  if s.sense.channels[e.slot].report then t.offerSample e else t

/-- Samples that complete in order. -/
def State.takeSamples (es : List SampleEntry) (s : State) : State := es.foldl (fun u e => u.takeSample e) s

@[simp] theorem State.takeSamples_nil (s : State) : s.takeSamples [] = s := rfl
@[simp] theorem State.takeSamples_cons (e : SampleEntry) (es : List SampleEntry) (s : State) :
    s.takeSamples (e :: es) = (s.takeSample e).takeSamples es := rfl

/-- A completed sample is its corrected value taken. -/
theorem State.sampleComplete_eq (k : Fin 16) (raw : Int) (stamp : Time) (s : State) :
    s.sampleComplete k raw stamp = s.takeSample ⟨k, s.sense.channels[k].correct raw, stamp⟩ := rfl

/-- What completing samples can change. -/
abbrev sampleParts : List Part := [.samples, .sampleQueue, .raised, .notice]

theorem State.takeSample_changes (e : SampleEntry) (s : State) : ChangesOnly sampleParts s (s.takeSample e) := by
  have judged := fun x b => (s.setSample_changes e.slot x).step (R := sampleParts)
    (State.raiseIf_changes b .rangeAlarm _) (by decide) (by decide)
  unfold State.takeSample
  dsimp only
  split
  · exact (judged _ _).step (State.offerSample_changes _ _) (by decide) (by decide)
  · exact judged _ _

theorem State.takeSamples_changes (es : List SampleEntry) (s : State) : ChangesOnly sampleParts s (s.takeSamples es) := by
  induction es generalizing s with
  | nil => exact .refl _ s
  | cons e es ih => exact (s.takeSample_changes e).trans (ih _)

@[simp] theorem State.takeSample_channels (e : SampleEntry) (s : State) : (s.takeSample e).sense.channels = s.sense.channels :=
  (s.takeSample_changes e).channels_eq (by decide)
@[simp] theorem State.takeSample_group (e : SampleEntry) (g : ScanGroup) (s : State) : (s.takeSample e).group g = s.group g :=
  (s.takeSample_changes e).group_eq (by decide) (by decide) g
@[simp] theorem State.takeSample_clock (e : SampleEntry) (s : State) : (s.takeSample e).clock = s.clock :=
  (s.takeSample_changes e).clock_eq (by decide)
@[simp] theorem State.takeSamples_channels (es : List SampleEntry) (s : State) :
    (s.takeSamples es).sense.channels = s.sense.channels := (s.takeSamples_changes es).channels_eq (by decide)
@[simp] theorem State.takeSamples_group (es : List SampleEntry) (g : ScanGroup) (s : State) :
    (s.takeSamples es).group g = s.group g := (s.takeSamples_changes es).group_eq (by decide) (by decide) g
@[simp] theorem State.takeSamples_clock (es : List SampleEntry) (s : State) : (s.takeSamples es).clock = s.clock :=
  (s.takeSamples_changes es).clock_eq (by decide)
@[simp] theorem State.takeSamples_pose (es : List SampleEntry) (s : State) : (s.takeSamples es).pose = s.pose :=
  (s.takeSamples_changes es).pose_eq (by decide)
@[simp] theorem State.takeSamples_snapshot (es : List SampleEntry) (s : State) :
    (s.takeSamples es).sense.snapshot = s.sense.snapshot := (s.takeSamples_changes es).snapshot_eq (by decide)

theorem State.offerSample_sense (e : SampleEntry) (s : State) : (s.offerSample e).sense = s.sense :=
  (s.offerSample_changes e).sense_eq (by decide)

theorem State.takeSample_samples (e : SampleEntry) (s : State) : (s.takeSample e).sense.samples =
    s.sense.samples.set e.slot.val (s.sense.samples[e.slot].take s.sense.channels[e.slot] e.value e.time) := by
  unfold State.takeSample
  dsimp only
  split <;> simp [State.offerSample_sense]

theorem State.takeSample_sample_self (e : SampleEntry) (s : State) : (s.takeSample e).sense.samples[e.slot] =
    s.sense.samples[e.slot].take s.sense.channels[e.slot] e.value e.time := by
  simp [State.takeSample_samples]

theorem State.takeSample_sample_of_ne {e : SampleEntry} {k : Fin 16} (h : k ≠ e.slot) (s : State) :
    (s.takeSample e).sense.samples[k] = s.sense.samples[k] := by
  have hv : e.slot.val ≠ k.val := fun x => h (Fin.ext x.symm)
  simp [State.takeSample_samples, Vector.getElem_set_ne, hv]

/-- A slot that no sample completes on keeps its sample state. -/
theorem State.takeSamples_sample_of_not_mem {es : List SampleEntry} {k : Fin 16} (h : k ∉ es.map (·.slot)) (s : State) :
    (s.takeSamples es).sense.samples[k] = s.sense.samples[k] := by
  induction es generalizing s with
  | nil => rfl
  | cons e es ih =>
    obtain ⟨hne, hrest⟩ := not_or.1 (List.mem_cons.not.1 h)
    rw [State.takeSamples_cons, ih hrest, State.takeSample_sample_of_ne hne]

/-- A sample that agrees with the alarm state (R22). -/
theorem SampleState.judge_of_agrees {c : Channel} {v : Int} {x : SampleState} (h : c.condition v = x.alarm) :
    x.judge c v = { x with run := 0 } := by
  simp [SampleState.judge, h]

/-- A sample that disagrees, too few in a row to change the alarm state (R22). -/
theorem SampleState.judge_of_waits {c : Channel} {v : Int} {x : SampleState} (h : c.condition v ≠ x.alarm)
    (hrun : x.run + 1 < c.persist) : x.judge c v = { x with run := x.run + 1 } := by
  simp [SampleState.judge, h, hrun]

/-- A sample that disagrees and changes the alarm state; at an onset the sticky flag and the side are set, once (R22). -/
theorem SampleState.judge_of_changes {c : Channel} {v : Int} {x : SampleState} (h : c.condition v ≠ x.alarm)
    (hrun : c.persist ≤ x.run + 1) : x.judge c v = { x with
      run := 0
      alarm := c.condition v
      sticky := x.sticky || c.condition v
      side := if c.condition v = true ∧ x.sticky = false then c.onsetSide v else x.side } := by
  have hrun : ¬ x.run + 1 < c.persist := by omega
  cases hc : c.condition v <;> cases hs : x.sticky <;> simp_all [SampleState.judge]

/-- The range condition of a slot that is judged, as the rule has it (R22). -/
theorem Channel.condition_eq {c : Channel} (h : c.rangeMode ≠ .off) (v : Int) : c.condition v =
    if c.rangeMode = .outside then decide (c.upper < v ∨ v < c.lower) else decide (c.lower ≤ v ∧ v ≤ c.upper) := by
  cases hm : c.rangeMode <;> simp_all [Channel.condition]

/-- The side of an onset, as the rule has it (R22). -/
theorem Channel.onsetSide_eq (c : Channel) (v : Int) : c.onsetSide v =
    if c.rangeMode = .inside then .within else if c.upper < v then .above else .below := by
  cases hm : c.rangeMode <;> simp [Channel.onsetSide, hm]

/-- Judging touches the run count, the alarm, the sticky flag and the side alone (R22). -/
theorem SampleState.judge_eq (c : Channel) (v : Int) (x : SampleState) : x.judge c v = { x with
    run := (x.judge c v).run
    alarm := (x.judge c v).alarm
    sticky := (x.judge c v).sticky
    side := (x.judge c v).side } := by
  unfold SampleState.judge
  dsimp only
  split
  · rfl
  · split
    · rfl
    · split <;> rfl

/-- The sample state after one sample (R21 steps 2 to 4, R22). -/
theorem SampleState.sampled_take (c : Channel) (v : Int) (stamp : Time) (x : SampleState) : Sampled c v stamp x (x.take c v stamp) := by
  by_cases hoff : c.rangeMode = .off
  · simp [Sampled, SampleState.take, SampleState.record, hoff]
  have htake : x.take c v stamp = (x.record v stamp).judge c v := by simp [SampleState.take, hoff]
  rw [htake]
  refine ⟨by rw [SampleState.judge_eq]; rfl, by rw [SampleState.judge_eq]; rfl, by rw [SampleState.judge_eq]; rfl, by rw [SampleState.judge_eq]; rfl, by rw [SampleState.judge_eq]; rfl,
    by rw [SampleState.judge_eq]; rfl, fun h => absurd h hoff, fun cond _ hcond => ?_⟩
  rw [← Channel.condition_eq hoff] at hcond
  subst hcond
  refine ⟨fun h => ?_, fun h hrun => ?_, fun h hrun => ?_⟩
  · rw [SampleState.judge_of_agrees (x := x.record v stamp) h]
    exact ⟨rfl, rfl, rfl, rfl⟩
  · rw [SampleState.judge_of_waits (x := x.record v stamp) h hrun]
    exact ⟨rfl, rfl, rfl, rfl⟩
  · rw [SampleState.judge_of_changes (x := x.record v stamp) h hrun, ← Channel.onsetSide_eq]
    refine ⟨rfl, rfl, fun onset fresh => ?_, fun stands => ?_⟩
    · simp [SampleState.record, onset, fresh]
    · rcases stands with h | h <;> simp [SampleState.record, h]

end Sys2Proof.Machine
end

section
namespace Sys2Proof.Machine

/-! ### The Sample Queue as samples are offered to it (R26, R27, R30) -/

/-- A sample that finds room joins the queue. -/
theorem State.offerSample_of_room {e : SampleEntry} {s : State} (h : s.report.queue.length < 512) :
    s.offerSample e = { s with report := { s.report with
      queue := s.report.queue ++ [e]
      expired := if s.report.queue.isEmpty then s.report.aged s.clock.now e else s.report.expired } } := if_pos h

/-- A sample that finds the queue full is counted as a gap. -/
theorem State.offerSample_of_full {e : SampleEntry} {s : State} (h : 512 ≤ s.report.queue.length) :
    s.offerSample e = ({ s with report := { s.report with gap := gapAdd s.report.gap 1, filling := true } }).raiseIf
      (!s.report.filling) .sampleQueueFull := if_neg (not_lt.2 h)

/-- Two states whose queue, queue record and present time agree answer an offer alike. -/
theorem Offered.congr {es : List SampleEntry} {m m' t t' : State} (h : Offered es m t) (hm : m'.report = m.report)
    (hc : m'.clock = m.clock) (ht : t'.report = t.report) : Offered es m' t' := by
  unfold Offered at *
  rwa [hm, hc, ht]

theorem Offered.nil {m t : State} (h : t.report = m.report) : Offered [] m t := by
  unfold Offered
  cases hq : m.report.queue <;> simp [h, hq]

theorem Offered.cons {e : SampleEntry} {es : List SampleEntry} {m u t : State} (hu : u.report = (m.offerSample e).report)
    (hc : u.clock = m.clock) (h : Offered es u t) : Offered (e :: es) m t := by
  obtain ⟨hqueue, hroom, hfull, hexpired⟩ := h
  rcases Nat.lt_or_ge m.report.queue.length 512 with hlen | hlen
  · rw [State.offerSample_of_room hlen] at hu
    simp only [hu, hc] at hqueue hroom hfull hexpired
    simp only [List.length_append, List.length_singleton, Nat.sub_add_eq] at hqueue hroom hfull
    obtain ⟨n, hn⟩ : ∃ n, 512 - m.report.queue.length = n + 1 := ⟨511 - m.report.queue.length, by omega⟩
    simp only [Offered, hn, Nat.add_sub_cancel, List.take_succ_cons, List.length_cons, Nat.add_le_add_iff_right,
      Nat.add_lt_add_iff_right, Nat.add_sub_add_right] at *
    refine ⟨by simp [hqueue], hroom, hfull, ?_⟩
    cases hq : m.report.queue <;> simp_all [Report.aged]
  · rw [State.offerSample_of_full hlen] at hu
    simp only [State.raiseIf_report] at hu
    have hzero : 512 - m.report.queue.length = 0 := by omega
    obtain ⟨e', q, hq⟩ : ∃ e' q, m.report.queue = e' :: q := List.exists_cons_of_ne_nil (by rintro h; simp [h] at hlen)
    simp only [hu, hc, hzero] at hqueue hroom hfull hexpired
    refine ⟨by simpa [hzero] using hqueue, fun h => by simp [hzero] at h, fun _ => ?_, by simpa [hq] using hexpired⟩
    simp only [hzero, List.length_cons, Nat.sub_zero]
    cases es with
    | nil => simpa [gapAdd] using (hroom (by simp)).symm
    | cons e' es =>
      obtain ⟨hfilling, hgap⟩ := hfull (by simp)
      refine ⟨hfilling, ?_⟩
      rw [hgap, gapAdd, List.length_cons]
      omega

/-! ### What completing samples does (R21 to R27) -/

/-- The kinds that completing the samples `es` raises (R22, R27). -/
def State.sampleMarks (es : List SampleEntry) (m t : State) : EventSet :=
  EventKind.rangeAlarm.markIf (es.any fun e => t.sense.samples[e.slot].sticky && !m.sense.samples[e.slot].sticky) |||
  EventKind.sampleQueueFull.markIf (!m.report.filling &&
    decide (512 - m.report.queue.length < (es.filter fun e => m.sense.channels[e.slot].report).length))

@[simp] theorem EventKind.markIf_true (k : EventKind) : k.markIf true = k.mark := rfl
@[simp] theorem EventKind.markIf_false (k : EventKind) : k.markIf false = 0#21 := rfl

theorem EventKind.markIf_or (k : EventKind) (a b : Bool) : k.markIf (a || b) = k.markIf a ||| k.markIf b := by
  cases a <;> cases b <;> simp [EventKind.markIf]

theorem State.takeSample_report (e : SampleEntry) (s : State) : (s.takeSample e).report =
    if s.sense.channels[e.slot].report then (s.offerSample e).report else s.report := by
  unfold State.takeSample State.offerSample
  dsimp only
  split
  · simp only [State.raiseIf_report, State.setSample_report, State.raiseIf_clock, State.setSample_clock]
    split <;> simp
  · simp

/-- One sample raises RANGE_ALARM at an onset that sets the sticky flag, and SAMPLE_QUEUE_FULL when its gap begins a filling. -/
theorem State.takeSample_raised (e : SampleEntry) (s : State) : EventsRaised
    (EventKind.rangeAlarm.markIf ((s.takeSample e).sense.samples[e.slot].sticky && !s.sense.samples[e.slot].sticky) |||
      EventKind.sampleQueueFull.markIf (s.sense.channels[e.slot].report && !s.report.filling && decide (512 ≤ s.report.queue.length)))
    s (s.takeSample e) := by
  rw [State.takeSample_sample_self]
  generalize hnew : s.sense.samples[e.slot].take s.sense.channels[e.slot] e.value e.time = new
  generalize hb : (new.sticky && !s.sense.samples[e.slot].sticky) = b
  have hjudged : EventsRaised (EventKind.rangeAlarm.markIf b) s ((s.setSample e.slot new).raiseIf b .rangeAlarm) :=
    (EventsRaised.raiseIf b .rangeAlarm (s.setSample e.slot new)).congr rfl rfl
  have htake : s.takeSample e = if s.sense.channels[e.slot].report then
      ((s.setSample e.slot new).raiseIf b .rangeAlarm).offerSample e else (s.setSample e.slot new).raiseIf b .rangeAlarm := by
    simp only [State.takeSample, hnew, hb]
  rw [htake]
  split
  next hreport =>
    rcases Nat.lt_or_ge s.report.queue.length 512 with hlen | hlen
    · rw [State.offerSample_of_room (by simpa using hlen), decide_eq_false (not_le.2 hlen), Bool.and_false, EventKind.markIf_false,
        BitVec.or_zero]
      exact hjudged.congr rfl rfl
    · rw [State.offerSample_of_full (by simpa using hlen), hreport, decide_eq_true hlen, Bool.and_true, Bool.true_and]
      simp only [State.raiseIf_report, State.setSample_report]
      exact hjudged.trans ((EventsRaised.raiseIf _ .sampleQueueFull { State.raiseIf b .rangeAlarm (s.setSample e.slot new) with
        report := { s.report with gap := gapAdd s.report.gap 1, filling := true } }).congr rfl rfl)
        (by simp) (by simp) (by simp) (by simp)
  next hreport =>
    rw [Bool.eq_false_iff.2 hreport, Bool.false_and, Bool.false_and, EventKind.markIf_false, BitVec.or_zero]
    exact hjudged

/-- A filling begins with the first sample or with a later one (R27). -/
theorem State.fullMark_cons (e : SampleEntry) (es : List SampleEntry) (m : State) :
    (!m.report.filling && decide (512 - m.report.queue.length <
      ((e :: es).filter fun x => m.sense.channels[x.slot].report).length)) =
    (m.sense.channels[e.slot].report && !m.report.filling && decide (512 ≤ m.report.queue.length) ||
      (!(m.takeSample e).report.filling && decide (512 - (m.takeSample e).report.queue.length <
        (es.filter fun x => (m.takeSample e).sense.channels[x.slot].report).length))) := by
  rw [State.takeSample_report, List.filter_cons, State.takeSample_channels]
  generalize (es.filter fun x => m.sense.channels[x.slot].report) = reported
  cases hreport : m.sense.channels[e.slot].report
  · simp
  · rcases Nat.lt_or_ge m.report.queue.length 512 with hlen | hlen
    · rw [if_pos rfl, if_pos rfl, State.offerSample_of_room hlen, decide_eq_false (not_le.2 hlen), Bool.and_false, Bool.false_or]
      simp only [List.length_append, List.length_cons, List.length_nil]
      congr 2
      simp only [eq_iff_iff]
      omega
    · rw [if_pos rfl, if_pos rfl, State.offerSample_of_full hlen, decide_eq_true hlen]
      have hroom : 512 - m.report.queue.length < (e :: reported).length := by simp only [List.length_cons]; omega
      rw [decide_eq_true hroom]
      simp

/-- The samples `es`, on slots of which none stands twice, have completed in order. -/
structure SamplesTaken (es : List SampleEntry) (m t : State) : Prop where
  changes : ChangesOnly sampleParts m t
  others : ∀ k : Fin 16, k ∉ es.map (·.slot) → t.sense.samples[k] = m.sense.samples[k]
  sampled : ∀ e ∈ es, Sampled m.sense.channels[e.slot] e.value e.time m.sense.samples[e.slot] t.sense.samples[e.slot]
  offered : Offered (es.filter fun e => m.sense.channels[e.slot].report) m t
  raised : EventsRaised (m.sampleMarks es t) m t

theorem State.takeSamples_taken {es : List SampleEntry} (hnodup : (es.map (·.slot)).Nodup) (m : State) :
    SamplesTaken es m (m.takeSamples es) := by
  induction es generalizing m with
  | nil => exact ⟨.refl _ m, fun _ _ => rfl, by simp, .nil rfl, by simpa [State.sampleMarks, EventKind.markIf] using EventsRaised.refl m⟩
  | cons e es ih =>
    obtain ⟨hfresh, hnodup⟩ := List.nodup_cons.1 hnodup
    have ih := ih hnodup (m.takeSample e)
    have hself : ((m.takeSample e).takeSamples es).sense.samples[e.slot] = (m.takeSample e).sense.samples[e.slot] := ih.others _ hfresh
    have hrest : ∀ x ∈ es, (m.takeSample e).sense.samples[x.slot] = m.sense.samples[x.slot] := fun x hx =>
      State.takeSample_sample_of_ne (fun h => hfresh (List.mem_map.2 ⟨x, hx, h⟩)) m
    refine ⟨m.takeSamples_changes _, fun k hk => m.takeSamples_sample_of_not_mem hk, ?_, ?_, ?_⟩
    · rw [List.forall_mem_cons]
      refine ⟨?_, fun x hx => ?_⟩
      · rw [State.takeSamples_cons, hself, State.takeSample_sample_self]
        exact SampleState.sampled_take _ _ _ _
      · have := ih.sampled x hx
        rwa [hrest x hx, State.takeSample_channels] at this
    · have hoffered := ih.offered
      simp only [State.takeSample_channels] at hoffered
      rw [List.filter_cons]
      split
      next hreport => exact hoffered.cons (by rw [State.takeSample_report, if_pos hreport]) (m.takeSample_clock e)
      next hreport => exact hoffered.congr (by rw [State.takeSample_report, if_neg hreport]) (m.takeSample_clock e).symm rfl
    · have hfirst := m.takeSample_raised e
      have hchain := hfirst.trans ih.raised ((m.takeSample_changes e).enabled_eq (by decide)) ((m.takeSample_changes e).gate_eq (by decide))
        (((m.takeSample e).takeSamples_changes es).enabled_eq (by decide)) (((m.takeSample e).takeSamples_changes es).gate_eq (by decide))
      have hlist : (es.any fun x => ((m.takeSample e).takeSamples es).sense.samples[x.slot].sticky &&
            !(m.takeSample e).sense.samples[x.slot].sticky) =
          es.any fun x => ((m.takeSample e).takeSamples es).sense.samples[x.slot].sticky && !m.sense.samples[x.slot].sticky :=
        by rw [Bool.eq_iff_iff, List.any_eq_true, List.any_eq_true]; exact exists_congr fun x => and_congr_right fun hx => by rw [hrest x hx]
      rw [State.sampleMarks, List.any_cons, m.fullMark_cons e es, EventKind.markIf_or, EventKind.markIf_or, State.takeSamples_cons,
        hself, ← hlist]
      rw [State.sampleMarks] at hchain
      convert hchain using 1
      ac_rfl

end Sys2Proof.Machine
end

section
namespace Sys2Proof.Machine

/-! ### A pass that completes (R13, R24, R35, R36) -/

/-- A kind raised in a state whose Event Unit is as it was before. -/
theorem EventsRaised.raiseIf_of_events {s u : State} (h : u.events = s.events) (b : Bool) (k : EventKind) :
    EventsRaised (k.markIf b) s (u.raiseIf b k) := (EventsRaised.raiseIf b k u).congr h.symm rfl

/-- The group after its pass completes (R13). -/
def Group.completed (x : Group) : Group :=
  { x with
    passes := x.passes + 1
    pass := none
    phase := if x.mode = .once then .stopped else .armed
    timer := if x.mode = .once then none else x.timer }

theorem State.roleValue_congr {s t : State} (hc : t.sense.channels = s.sense.channels) (hs : t.sense.samples = s.sense.samples)
    (r : Role) : t.roleValue r = s.roleValue r := by
  simp [State.roleValue, State.members_congr hc, hc, hs]

theorem State.passComplete_fast (p : Pass) (s : State) : s.passComplete .fast p =
    (s.setGroup .fast (s.group .fast).completed).integratePass (p.start.getD s.clock.now) (s.roleValue .yaw) (s.roleValue .pitch) := rfl

theorem State.passComplete_slow (p : Pass) (s : State) : s.passComplete .slow p =
    if (s.group .slow).hold then (s.setGroup .slow (s.group .slow).completed).refillSnapshot (p.start.getD s.clock.now)
    else s.setGroup .slow (s.group .slow).completed := rfl

/-- The Pose Integrator that takes a pass raises GYRO_GAP after a pause of more than 4,095 µs (R36). -/
theorem State.integratePass_raised (start : Time) (yaw pitch : Option Int) (s : State) :
    EventsRaised (EventKind.gyroGap.markIf ((yaw.isSome || pitch.isSome) &&
      s.pose.prev.any fun before => decide (4095 < distance before start))) s (s.integratePass start yaw pitch) := by
  unfold State.integratePass
  split
  next h =>
    obtain ⟨hy, hp⟩ : yaw = none ∧ pitch = none := by simpa using h
    simpa [hy, hp] using EventsRaised.refl s
  next h =>
    have hsome : (yaw.isSome || pitch.isSome) = true := by
      cases yaw <;> cases pitch <;> simp_all
    have hgap : (s.pose.prev.any fun before => decide (4095 < distance before start)) =
        decide (4095 < match s.pose.prev with | none => 0 | some t => distance t start) := by
      cases s.pose.prev <;> rfl
    rw [hsome, Bool.true_and, hgap]
    exact EventsRaised.raiseIf_of_events rfl _ _

/-- What the Pose Integrator makes of a pass (R35). -/
theorem State.integratePass_pose (start : Time) (yaw pitch : Option Int) (s : State) :
    Integrated s.pose (s.integratePass start yaw pitch).pose start yaw pitch := by
  unfold State.integratePass
  split
  next h =>
    obtain ⟨hy, hp⟩ : yaw = none ∧ pitch = none := by simpa using h
    simp [Integrated, hy, hp]
  next h =>
    refine ⟨fun hy hp => absurd (by simp [hy, hp]) h, fun _ => ?_⟩
    dsimp only
    rw [State.raiseIf_pose]
    refine ⟨rfl, rfl, fun hprev => ?_, fun before hprev => ?_⟩ <;>
      cases yaw <;> cases pitch <;> simp [hprev, accumulate]

theorem State.refillSnapshot_snapshot (start : Time) (s : State) : (s.refillSnapshot start).sense.snapshot =
    ⟨start, (s.members .slow).map fun k => ⟨k, s.sense.samples[k].value, s.sense.samples[k].valid⟩, false⟩ := rfl

theorem State.refillSnapshot_raised (start : Time) (s : State) :
    EventsRaised EventKind.snapshotReady.mark s (s.refillSnapshot start) :=
  EventsRaised.raiseIf_of_events (u := { s with sense := { s.sense with snapshot := _ } }) rfl true _

/-! ### A pass that has taken its samples and stands at the slots that are left (R13, R14) -/

/-- The pass `p` of group `g`, after it took a sample or none, stands at the slots `rest`: with slots left the group waits, or in mode
STEP rearms after a sample; with none the pass completes. -/
def State.standAt (g : ScanGroup) (p : Pass) (stepped : Bool) (rest : List (Fin 16)) (s : State) : State :=
  if rest = [] then s.passComplete g p
  else s.setGroup g { s.group g with
    phase := if (s.group g).mode = .step ∧ stepped = true then .armed else .passing
    pass := some { p with todo := rest } }

/-- The kinds raised while slots are left are those of the samples. -/
theorem State.passMarks_standing (g : ScanGroup) (start : Time) (es : List SampleEntry) (m t : State) :
    m.passMarks g start es false t = m.sampleMarks es t := by
  simp [State.passMarks, State.sampleMarks]

theorem State.passMarks_fast (start : Time) (es : List SampleEntry) (m t : State) : m.passMarks .fast start es true t =
    m.sampleMarks es t ||| EventKind.gyroGap.markIf (((t.roleValue .yaw).isSome || (t.roleValue .pitch).isSome) &&
      m.pose.prev.any fun before => decide (4095 < distance before start)) := by
  have hother : (ScanGroup.fast == ScanGroup.slow) = false := rfl
  simp [State.passMarks, State.sampleMarks, hother]

theorem State.passMarks_slow (start : Time) (es : List SampleEntry) (m t : State) : m.passMarks .slow start es true t =
    m.sampleMarks es t ||| EventKind.snapshotReady.markIf (m.group .slow).hold := by
  have hother : (ScanGroup.slow == ScanGroup.fast) = false := rfl
  simp [State.passMarks, State.sampleMarks, hother]

theorem State.sampleMarks_congr {es : List SampleEntry} {m t t' : State} (h : t'.sense.samples = t.sense.samples) :
    m.sampleMarks es t' = m.sampleMarks es t := by
  simp only [State.sampleMarks, h]

/-- What a pass completion leaves: the samples, the queue and the other group. -/
theorem State.passComplete_changes_only (g : ScanGroup) (p : Pass) (s : State) :
    ChangesOnly [.fast, .slow, .snapshot, .pose, .raised, .notice] s (s.passComplete g p) := by
  have completed := s.setGroup_changes g (s.group g).completed
  cases g
  · exact completed.step (State.integratePass_changes _ _ _ _) (by decide) (by decide)
  · rw [State.passComplete_slow]
    split
    · exact completed.step (State.refillSnapshot_changes _ _) (by decide) (by decide)
    · exact completed.mono (by decide)

theorem State.integratePass_sense (start : Time) (yaw pitch : Option Int) (s : State) :
    (s.integratePass start yaw pitch).sense = s.sense := (s.integratePass_changes start yaw pitch).sense_eq (by decide)

theorem State.integratePass_group (start : Time) (yaw pitch : Option Int) (g : ScanGroup) (s : State) :
    (s.integratePass start yaw pitch).group g = s.group g :=
  (s.integratePass_changes start yaw pitch).group_eq (by decide) (by decide) g

theorem State.refillSnapshot_group (start : Time) (g : ScanGroup) (s : State) : (s.refillSnapshot start).group g = s.group g :=
  (s.refillSnapshot_changes start).group_eq (by decide) (by decide) g

theorem State.passComplete_group (g : ScanGroup) (p : Pass) (s : State) : (s.passComplete g p).group g = (s.group g).completed := by
  cases g
  · rw [State.passComplete_fast, State.integratePass_group, State.group_setGroup]
  · rw [State.passComplete_slow]
    split <;> simp [State.refillSnapshot_group]

theorem State.passComplete_group_of_ne {g h : ScanGroup} (hne : h ≠ g) (p : Pass) (s : State) :
    (s.passComplete g p).group h = s.group h := by
  cases g
  · rw [State.passComplete_fast, State.integratePass_group, State.group_setGroup_of_ne hne]
  · rw [State.passComplete_slow]
    split <;> simp [State.refillSnapshot_group, State.group_setGroup_of_ne hne]

/-- A FAST completion leaves the Snapshot record. -/
theorem State.passComplete_fast_snapshot (p : Pass) (s : State) : (s.passComplete .fast p).sense.snapshot = s.sense.snapshot := by
  rw [State.passComplete_fast, State.integratePass_sense, State.setGroup_sense_snapshot]

theorem SamplesTaken.passAdvances_of_left {g : ScanGroup} {p : Pass} {es : List SampleEntry} {rest : List (Fin 16)} {m u : State}
    (taken : SamplesTaken es m u) (hleft : rest ≠ []) : PassAdvances g p es rest m (u.standAt g p (!es.isEmpty) rest) := by
  have hgroup := fun h => taken.changes.group_eq (by decide) (by decide) h
  rw [State.standAt, if_neg hleft]
  refine ⟨taken.changes.step (u.setGroup_changes g _) (by decide) (by decide), fun h hne => ?_, fun k hk => ?_, fun e he => ?_,
    taken.offered.congr rfl rfl (State.setGroup_report g _ u), ?_, fun _ => ⟨?_, ?_, ?_⟩, fun h => absurd h hleft⟩
  · rw [State.group_setGroup_of_ne hne, hgroup]
  · rw [State.setGroup_sense_samples, taken.others k hk]
  · rw [State.setGroup_sense_samples]
    exact taken.sampled e he
  · rw [List.isEmpty_eq_false_iff.2 hleft, State.passMarks_standing, State.sampleMarks_congr (State.setGroup_sense_samples g _ u)]
    exact taken.raised.congr rfl (State.setGroup_events g _ u)
  · cases es <;> simp [hgroup]
  · rw [State.setGroup_pose, taken.changes.pose_eq (by decide)]
  · rw [State.setGroup_sense_snapshot, taken.changes.snapshot_eq (by decide)]

/-- The kinds a completion raises beyond those of the samples. -/
theorem SamplesTaken.completes_raised {g : ScanGroup} {p : Pass} {es : List SampleEntry} {m u : State} (taken : SamplesTaken es m u) :
    EventsRaised (m.passMarks g (p.start.getD m.clock.now) es true (u.passComplete g p)) m (u.passComplete g p) := by
  have hsamples := (u.passComplete_changes_only g p).samples_eq (by decide)
  have hclock := taken.changes.clock_eq (by decide)
  have hchain : ∀ {x : EventSet}, EventsRaised x u (u.passComplete g p) →
      EventsRaised (m.sampleMarks es u ||| x) m (u.passComplete g p) := fun h =>
    taken.raised.trans h (taken.changes.enabled_eq (by decide)) (taken.changes.gate_eq (by decide))
      ((u.passComplete_changes_only g p).enabled_eq (by decide)) ((u.passComplete_changes_only g p).gate_eq (by decide))
  cases g
  · have hrole := State.roleValue_congr ((u.passComplete_changes_only .fast p).channels_eq (by decide)) hsamples
    rw [State.passMarks_fast, State.sampleMarks_congr hsamples, hrole, hrole, ← taken.changes.pose_eq (by decide), ← hclock]
    have hraised := (u.setGroup .fast (u.group .fast).completed).integratePass_raised (p.start.getD u.clock.now) (u.roleValue .yaw)
      (u.roleValue .pitch)
    exact hchain (hraised.congr (State.setGroup_events _ _ u).symm rfl)
  · rw [State.passMarks_slow, State.sampleMarks_congr hsamples, ← taken.changes.group_eq (by decide) (by decide)]
    refine hchain ?_
    rw [State.passComplete_slow]
    cases (u.group .slow).hold
    · exact (EventsRaised.refl u).congr rfl rfl
    · exact (State.refillSnapshot_raised _ _).congr (State.setGroup_events _ _ u).symm rfl

theorem SamplesTaken.passAdvances_of_done {g : ScanGroup} {p : Pass} {es : List SampleEntry} {m u : State}
    (taken : SamplesTaken es m u) : PassAdvances g p es [] m (u.standAt g p (!es.isEmpty) []) := by
  have hgroup := fun h => taken.changes.group_eq (by decide) (by decide) h
  have hclock := taken.changes.clock_eq (by decide)
  have hpose := taken.changes.pose_eq (by decide)
  have hsnapshot := taken.changes.snapshot_eq (by decide)
  have completes := u.passComplete_changes_only g p
  have hsamples := completes.samples_eq (by decide)
  have hreport : (u.passComplete g p).report = u.report := by
    cases g
    · rw [State.passComplete_fast]
      unfold State.integratePass
      split <;> simp
    · rw [State.passComplete_slow]
      split <;> simp [State.refillSnapshot]
  rw [State.standAt, if_pos rfl]
  refine ⟨taken.changes.step completes (by decide) (by decide), fun h hne => ?_, fun k hk => ?_, fun e he => ?_,
    taken.offered.congr rfl rfl hreport, taken.completes_raised, fun h => absurd rfl h, fun _ => ⟨?_, ?_, ?_, ?_, ?_⟩⟩
  · rw [State.passComplete_group_of_ne hne, hgroup]
  · rw [hsamples, taken.others k hk]
  · rw [hsamples]
    exact taken.sampled e he
  · rw [State.passComplete_group, hgroup]
    rfl
  · rintro rfl
    have hrole := State.roleValue_congr (completes.channels_eq (by decide)) hsamples
    rw [hrole, hrole, State.passComplete_fast, ← hpose, ← hclock]
    have := State.integratePass_pose (p.start.getD u.clock.now) (u.roleValue .yaw) (u.roleValue .pitch)
      (u.setGroup .fast (u.group .fast).completed)
    rwa [State.setGroup_pose] at this
  · rintro rfl
    rw [State.passComplete_slow, ← hpose]
    split <;> simp [State.refillSnapshot]
  · rintro rfl hhold
    rw [← hgroup] at hhold
    rw [hsamples, State.passComplete_slow, if_pos hhold, State.refillSnapshot_snapshot, hclock, State.setGroup_sense_samples,
      State.members_congr (State.setGroup_sense_channels _ _ u), State.members_congr (taken.changes.channels_eq (by decide))]
  · intro h
    rw [← hsnapshot]
    cases g
    · exact u.passComplete_fast_snapshot p
    · have hhold : (u.group .slow).hold = false := by simpa [hgroup] using h
      rw [State.passComplete_slow, hhold]
      exact State.setGroup_sense_snapshot _ _ u

/-- A pass that takes the samples `es` and then stands at `rest` advances as the rules have it. -/
theorem State.takeSamples_standAt_advances {es : List SampleEntry} (hnodup : (es.map (·.slot)).Nodup) (g : ScanGroup) (p : Pass)
    (rest : List (Fin 16)) (m : State) :
    PassAdvances g p es rest m ((m.takeSamples es).standAt g p (!es.isEmpty) rest) := by
  have taken := m.takeSamples_taken hnodup
  rcases eq_or_ne rest [] with rfl | hleft
  · exact taken.passAdvances_of_done
  · exact taken.passAdvances_of_left hleft

end Sys2Proof.Machine
end

section
namespace Sys2Proof.Machine

/-! ### What a walk over a pass's slots does (R13, R14) -/

theorem State.takesBurst_of_source {s : State} {k src : Fin 16} (h : s.sense.channels[k].source = some src) :
    s.takesBurst k = isMotion src := by
  rw [State.takesBurst, h]
  rfl

theorem State.takesBurst_of_no_source {s : State} {k : Fin 16} (h : s.sense.channels[k].source = none) :
    s.takesBurst k = false := by
  rw [State.takesBurst, h]
  rfl

@[simp] theorem State.samplesAtOnce_nil (burst : Option HeldBurst) (s : State) : s.samplesAtOnce burst [] = [] := by
  cases burst <;> rfl

theorem State.servedAtOnce_none (mode : ScanMode) (todo : List (Fin 16)) (s : State) : s.servedAtOnce none mode todo = [] := rfl

theorem State.servedAtOnce_nil (burst : Option HeldBurst) (mode : ScanMode) (s : State) : s.servedAtOnce burst mode [] = [] := by
  cases burst <;> simp [State.servedAtOnce]

/-- A slot that takes no value from the burst is not served by it, nor is any slot behind it. -/
theorem State.servedAtOnce_of_not_takes {s : State} {k : Fin 16} (h : s.takesBurst k = false) (burst : Option HeldBurst) (mode : ScanMode)
    (rest : List (Fin 16)) : s.servedAtOnce burst mode (k :: rest) = [] := by
  cases burst with
  | none => rfl
  | some b => unfold State.servedAtOnce; dsimp only; split <;> simp [h]

/-- A slot that the burst serves: in mode STEP it alone, else also what is served behind it. -/
theorem State.servedAtOnce_of_takes {s : State} {k : Fin 16} (h : s.takesBurst k = true) (b : HeldBurst) (mode : ScanMode)
    (rest : List (Fin 16)) : s.servedAtOnce (some b) mode (k :: rest) =
      k :: if mode = .step then [] else s.servedAtOnce (some b) mode rest := by
  unfold State.servedAtOnce
  dsimp only
  split <;> simp [*]

theorem State.servedAtOnce_prefix (burst : Option HeldBurst) (mode : ScanMode) (todo : List (Fin 16)) (s : State) :
    s.servedAtOnce burst mode todo <+: todo := by
  cases burst with
  | none => exact List.nil_prefix
  | some b =>
    unfold State.servedAtOnce
    dsimp only
    split
    · exact (List.takeWhile_prefix _).trans (List.take_prefix _ _)
    · exact List.takeWhile_prefix _

/-- A motion slot's source gives the value that its slot takes from the burst. -/
theorem State.burstSample_of_source {s : State} {k src : Fin 16} (h : s.sense.channels[k].source = some src) (b : HeldBurst) :
    s.burstSample b k = ⟨k, s.sense.channels[k].correct (axisValue b.raw src), b.time⟩ := by
  simp only [State.burstSample, Channel.correct, h, Option.map_some, Option.getD_some]

/-- A pass over `todo` takes the samples that its burst serves at once and stands at what is left. -/
theorem State.walk_eq (g : ScanGroup) (p : Pass) (todo : List (Fin 16)) (s : State) :
    s.walk g p todo =
      (s.takeSamples (s.samplesAtOnce p.burst (s.servedAtOnce p.burst (s.group g).mode todo))).standAt g p
        (!(s.servedAtOnce p.burst (s.group g).mode todo).isEmpty)
        (todo.drop (s.servedAtOnce p.burst (s.group g).mode todo).length) := by
  induction todo generalizing s with
  | nil =>
    rw [State.servedAtOnce_nil]
    cases p.burst <;> rfl
  | cons k rest ih =>
    have waits : s.servedAtOnce p.burst (s.group g).mode (k :: rest) = [] →
        s.setGroup g { s.group g with phase := .passing, pass := some { p with todo := k :: rest } } =
          (s.takeSamples (s.samplesAtOnce p.burst (s.servedAtOnce p.burst (s.group g).mode (k :: rest)))).standAt g p
            (!(s.servedAtOnce p.burst (s.group g).mode (k :: rest)).isEmpty)
            ((k :: rest).drop (s.servedAtOnce p.burst (s.group g).mode (k :: rest)).length) := by
      intro h
      rw [h]
      simp [State.standAt]
    unfold State.walk
    split
    next b src hb hsrc =>
      by_cases hm : isMotion src = true
      · have htakes : s.takesBurst k = true := (State.takesBurst_of_source hsrc).trans hm
        rw [if_pos hm, State.sampleComplete_eq, ← State.burstSample_of_source hsrc, hb, State.servedAtOnce_of_takes htakes]
        dsimp only
        rw [State.takeSample_group, ih, hb, State.takeSample_group,
          State.servedAtOnce_congr (State.takeSample_channels _ s), State.samplesAtOnce_congr (State.takeSample_channels _ s)]
        by_cases hstep : (s.group g).mode = .step
        · rw [if_pos hstep]
          rcases eq_or_ne rest [] with rfl | hleft
          · simp [State.standAt, State.servedAtOnce_nil, State.samplesAtOnce]
          · simp [hstep, hleft, hb, State.standAt, State.samplesAtOnce, State.takeSample_group]
        · simp [hstep, State.samplesAtOnce, State.standAt]
      · have htakes : s.takesBurst k = false := (State.takesBurst_of_source hsrc).trans (Bool.eq_false_iff.2 hm)
        rw [if_neg hm]
        exact waits (State.servedAtOnce_of_not_takes htakes _ _ _)
    next h =>
      refine waits ?_
      rcases hb : p.burst with _ | b
      · rfl
      · refine State.servedAtOnce_of_not_takes ?_ _ _ _
        rcases hsrc : s.sense.channels[k].source with _ | src
        · exact State.takesBurst_of_no_source hsrc
        · exact absurd hsrc (h b src hb)

/-- A pass that takes no slot twice advances over its slots as the rules have it. -/
theorem State.walk_advances {todo : List (Fin 16)} (hnodup : todo.Nodup) (g : ScanGroup) (p : Pass) {s : State} {ks : List (Fin 16)}
    (hks : ks = s.servedAtOnce p.burst (s.group g).mode todo) :
    PassAdvances g p (s.samplesAtOnce p.burst ks) (todo.drop ks.length) s (s.walk g p todo) := by
  have hprefix := hks ▸ s.servedAtOnce_prefix p.burst (s.group g).mode todo
  have hslots : ((s.samplesAtOnce p.burst ks).map (·.slot)).Nodup ∧ (s.samplesAtOnce p.burst ks).isEmpty = ks.isEmpty := by
    rcases hb : p.burst with _ | b
    · rw [hb, State.servedAtOnce_none] at hks
      simp [State.samplesAtOnce, hks]
    · have : (ks.map (s.burstSample b)).map (·.slot) = ks := by simp [Function.comp_def, State.burstSample]
      simp only [State.samplesAtOnce, this]
      exact ⟨hnodup.sublist hprefix.sublist, by simp⟩
  rw [s.walk_eq g p todo, ← hks, ← hslots.2]
  exact State.takeSamples_standAt_advances hslots.1 g p _ s

/-- A pass that starts takes no sample: it stands at the lowest member slot, or completes (R13). -/
theorem State.startPass_advances (g : ScanGroup) (s : State) :
    PassAdvances g ⟨none, s.members g, none⟩ [] (s.members g) s (s.startPass g) :=
  State.walk_advances ((List.nodup_finRange 16).filter _) g ⟨none, s.members g, none⟩ (ks := []) rfl

/-! ### Triggers (R10, R12, R14, R25) -/

theorem State.trigger_reaches (g : ScanGroup) (s : State) : TriggerReaches g s (s.trigger g) := by
  refine ⟨fun h => ?_, fun h => ?_, fun h hpass => ⟨fun hheld => ?_, fun hheld => ?_⟩, fun h p hpass hnodup ks hks => ?_⟩
  · simp only [State.trigger, h]
  · have : s.trigger g = s.raise .scanOverrun := by rcases h with h | h <;> simp only [State.trigger, h]
    rw [this]
    exact ⟨.raise _ s, s.raise_changes _⟩
  · obtain ⟨rfl, hhold, htaken⟩ := hheld
    have : s.trigger .slow = s.setGroup .slow { s.group .slow with phase := .held } := by
      simp [State.trigger, h, hpass, hhold, htaken]
    rw [this]
    exact ⟨State.group_setGroup _ _ s, fun _ hne => State.group_setGroup_of_ne hne _ s, s.setGroup_changes _ _⟩
  · have : s.trigger g = s.startPass g := by
      simp only [State.trigger, h, hpass]
      exact if_neg (by simpa using hheld)
    rw [this]
    exact s.startPass_advances g
  · have : s.trigger g = s.walk g p p.todo := by simp only [State.trigger, h, hpass]
    rw [this]
    exact State.walk_advances hnodup g p hks

/-! ### The arbiters (R15) -/

/-- The group that a free resource goes to: FAST if it waits for it, else SLOW if it does (R15). -/
def State.chosen (r : Resource) (s : State) : Option ScanGroup :=
  if s.needs .fast = some r then some .fast else if s.needs .slow = some r then some .slow else none

theorem State.needs_of_chosen {r : Resource} {g : ScanGroup} {s : State} (h : s.chosen r = some g) : s.needs g = some r := by
  unfold State.chosen at h
  split at h
  · cases h; assumption
  · split at h
    · cases h; assumption
    · cases h

theorem State.arbitrateOne_eq (r : Resource) (s : State) : s.arbitrateOne r =
    if s.inUse r = none then (match s.chosen r with | some g => s.grantTo g r | none => s) else s := by
  unfold State.arbitrateOne State.chosen
  cases s.inUse r
  · simp only [Option.isSome_none, Bool.false_eq_true, if_false, if_true]
    split
    · rfl
    · split <;> rfl
  · rfl

theorem State.grantTo_inUse_self (g : ScanGroup) (r : Resource) (s : State) : (s.grantTo g r).inUse r = some ⟨g, s.clock.now⟩ := by
  cases r <;> simp [State.grantTo, State.inUse, State.stampPass]

theorem State.grantTo_inUse_of_ne {r y : Resource} (h : y ≠ r) (g : ScanGroup) (s : State) : (s.grantTo g r).inUse y = s.inUse y := by
  cases r <;> cases y <;> simp_all [State.grantTo, State.inUse, State.stampPass]

theorem State.grantTo_group_self (g : ScanGroup) (r : Resource) (s : State) :
    (s.grantTo g r).group g = (s.group g).granted s.clock.now := by
  cases r <;> exact State.group_setGroup g _ s

theorem State.grantTo_group_of_ne {g h : ScanGroup} (hne : h ≠ g) (r : Resource) (s : State) : (s.grantTo g r).group h = s.group h := by
  cases r <;> exact State.group_setGroup_of_ne hne _ s

/-- A grant stamps a pass; what the pass stands waiting for or uses is as before. -/
theorem State.needs_of_granted {s t : State} {g : ScanGroup} {now : Time} (hc : t.sense.channels = s.sense.channels)
    (hg : t.group g = (s.group g).granted now) : t.needs g = s.needs g := by
  unfold State.needs
  rw [hg, hc]
  cases hpass : (s.group g).pass <;> cases hphase : (s.group g).phase <;> simp [Group.granted, hpass, hphase]

theorem State.grantTo_needs (g : ScanGroup) (r : Resource) (h : ScanGroup) (s : State) : (s.grantTo g r).needs h = s.needs h := by
  have hc := (s.grantTo_changes g r).channels_eq (by decide)
  rcases eq_or_ne h g with rfl | hne
  · exact State.needs_of_granted hc (State.grantTo_group_self h r s)
  · exact State.needs_congr hc (State.grantTo_group_of_ne hne r s)

theorem State.arbitrateOne_needs (r : Resource) (g : ScanGroup) (s : State) : (s.arbitrateOne r).needs g = s.needs g := by
  rw [State.arbitrateOne_eq]
  split
  · split
    · exact State.grantTo_needs _ r g s
    · rfl
  · rfl

theorem State.arbitrateOne_clock (r : Resource) (s : State) : (s.arbitrateOne r).clock = s.clock :=
  (s.arbitrateOne_changes r).clock_eq (by decide)

theorem State.arbitrateOne_chosen (r y : Resource) (s : State) : (s.arbitrateOne r).chosen y = s.chosen y := by
  simp only [State.chosen, State.arbitrateOne_needs]

theorem State.arbitrateOne_inUse_of_ne {r y : Resource} (h : y ≠ r) (s : State) : (s.arbitrateOne r).inUse y = s.inUse y := by
  rw [State.arbitrateOne_eq]
  split
  · split
    · exact State.grantTo_inUse_of_ne h _ s
    · rfl
  · rfl

theorem State.arbitrateOne_inUse_self (r : Resource) (s : State) : (s.arbitrateOne r).inUse r =
    (s.inUse r).or ((s.chosen r).map fun g => ⟨g, s.clock.now⟩) := by
  rw [State.arbitrateOne_eq]
  split
  next hfree =>
    rw [hfree]
    cases s.chosen r
    · exact hfree
    · exact State.grantTo_inUse_self _ r s
  next hbusy =>
    obtain ⟨u, hu⟩ := Option.ne_none_iff_exists'.1 hbusy
    rw [hu]
    rfl

theorem State.arbitrateOne_group_of_granted {r : Resource} {g : ScanGroup} {s : State} (hfree : s.inUse r = none)
    (h : s.chosen r = some g) : (s.arbitrateOne r).group g = (s.group g).granted s.clock.now := by
  rw [State.arbitrateOne_eq, if_pos hfree, h]
  exact State.grantTo_group_self g r s

theorem State.arbitrateOne_group_of_not_granted {r : Resource} {g : ScanGroup} {s : State}
    (h : ¬ (s.inUse r = none ∧ s.chosen r = some g)) : (s.arbitrateOne r).group g = s.group g := by
  rw [State.arbitrateOne_eq]
  split
  next hfree =>
    split
    next g' hg' => exact State.grantTo_group_of_ne (fun e => h ⟨hfree, hg'.trans (congrArg some e.symm)⟩) r s
    next => rfl
  next => rfl

/-- After both arbiters a resource in use stays with its group, and a free one is with the group that it goes to (R15). -/
theorem State.arbitrate_inUse (y : Resource) (s : State) : s.arbitrate.inUse y =
    (s.inUse y).or ((s.chosen y).map fun g => ⟨g, s.clock.now⟩) := by
  cases y
  · rw [State.arbitrate, State.arbitrateOne_inUse_of_ne (by decide), State.arbitrateOne_inUse_self]
  · rw [State.arbitrate, State.arbitrateOne_inUse_self, State.arbitrateOne_inUse_of_ne (by decide), State.arbitrateOne_chosen,
      State.arbitrateOne_clock]

theorem State.arbitrate_needs (g : ScanGroup) (s : State) : s.arbitrate.needs g = s.needs g := by
  rw [State.arbitrate, State.arbitrateOne_needs, State.arbitrateOne_needs]

/-- A group is granted a resource by the arbiters exactly when a free one goes to it. -/
theorem State.granted_arbitrate_iff {g : ScanGroup} {s : State} :
    Granted g s s.arbitrate ↔ ∃ y, s.inUse y = none ∧ s.chosen y = some g := by
  constructor
  · rintro ⟨y, -, hfree, huse⟩
    rw [State.arbitrate_inUse, hfree] at huse
    cases hc : s.chosen y with
    | none => simp [hc] at huse
    | some g' => exact ⟨y, hfree, by simpa [hc] using huse⟩
  · rintro ⟨y, hfree, hc⟩
    exact ⟨y, State.needs_of_chosen hc, hfree, by simp [State.arbitrate_inUse, hfree, hc]⟩

theorem State.arbitrate_group_of_granted {g : ScanGroup} {s : State} (h : Granted g s s.arbitrate) :
    s.arbitrate.group g = (s.group g).granted s.clock.now := by
  obtain ⟨y, hfree, hc⟩ := State.granted_arbitrate_iff.1 h
  have hneed := State.needs_of_chosen hc
  cases y
  · have hother : ¬ ((s.arbitrateOne .port).inUse .converter = none ∧ (s.arbitrateOne .port).chosen .converter = some g) := by
      rintro ⟨-, hc'⟩
      rw [State.arbitrateOne_chosen] at hc'
      simpa [hneed] using State.needs_of_chosen hc'
    rw [State.arbitrate, State.arbitrateOne_group_of_not_granted hother, State.arbitrateOne_group_of_granted hfree hc]
  · have hother : ¬ (s.inUse .port = none ∧ s.chosen .port = some g) := by
      rintro ⟨-, hc'⟩
      simpa [hneed] using State.needs_of_chosen hc'
    rw [State.arbitrate, State.arbitrateOne_group_of_granted, State.arbitrateOne_group_of_not_granted hother, State.arbitrateOne_clock]
    · rw [State.arbitrateOne_inUse_of_ne (by decide), hfree]
    · rw [State.arbitrateOne_chosen, hc]

theorem State.arbitrate_group_of_not_granted {g : ScanGroup} {s : State} (h : ¬ Granted g s s.arbitrate) :
    s.arbitrate.group g = s.group g := by
  rw [State.granted_arbitrate_iff, not_exists] at h
  rw [State.arbitrate, State.arbitrateOne_group_of_not_granted, State.arbitrateOne_group_of_not_granted (h .port)]
  rw [State.arbitrateOne_inUse_of_ne (by decide), State.arbitrateOne_chosen]
  exact h .converter

/-- The two arbiters act as the rule has it (R15). -/
theorem State.arbitrate_acts (s : State) : ArbitersAct s s.arbitrate := by
  refine ⟨fun y => ⟨fun h => ?_, fun hfree hf => ?_, fun hfree hf hs => ?_, fun hfree hf hs => ?_⟩,
    fun g => ⟨State.arbitrate_group_of_granted, State.arbitrate_group_of_not_granted⟩⟩ <;> rw [State.arbitrate_inUse]
  · obtain ⟨u, hu⟩ := Option.isSome_iff_exists.1 h
    rw [hu]
    rfl
  all_goals simp [State.chosen, *]

/-- The arbiters change nothing where every group that needs a resource finds it in use. -/
theorem State.arbitrate_of_all_served {s : State} (h : ∀ (g : ScanGroup) (r : Resource), s.needs g = some r → (s.inUse r).isSome) :
    s.arbitrate = s := by
  have one : ∀ r, s.arbitrateOne r = s := by
    intro r
    rw [State.arbitrateOne_eq]
    split
    next hfree =>
      split
      next g hc => simpa [hfree] using h g r (State.needs_of_chosen hc)
      next => rfl
    next => rfl
  rw [State.arbitrate, one, one]

end Sys2Proof.Machine
end

section
namespace Sys2Proof.Machine

/-! ### The laws of the scan groups, while the arbiters have yet to act (R10 to R15) -/

/-- The laws of the scan groups but for the arbiters' part: a resource in use serves a group that needs it. -/
def SenseReady (s : State) : Prop :=
  (∀ g : ScanGroup, GroupLaw g s) ∧ ∀ (r : Resource) (u : InFlight), s.inUse r = some u → s.needs u.owner = some r

theorem senseLaw_iff {s : State} : SenseLaw s ↔
    SenseReady s ∧ ∀ (g : ScanGroup) (r : Resource), s.needs g = some r → (s.inUse r).isSome := by
  constructor
  · rintro ⟨hfast, hslow, hserved, huse⟩
    exact ⟨⟨fun g => by cases g <;> assumption, huse⟩, hserved⟩
  · rintro ⟨⟨hgroups, huse⟩, hserved⟩
    exact ⟨hgroups .fast, hgroups .slow, hserved, huse⟩

theorem SenseLaw.ready {s : State} (h : SenseLaw s) : SenseReady s := (senseLaw_iff.1 h).1

/-- A group that is not PASSING needs no resource. -/
theorem State.needs_of_not_passing {g : ScanGroup} {s : State} (h : (s.group g).phase ≠ .passing) : s.needs g = none := by
  unfold State.needs
  split
  next hphase _ => exact absurd hphase h
  next => rfl

/-- What a PASSING group needs, by the slot that its pass stands at (R13). -/
theorem State.needs_of_passing {g : ScanGroup} {s : State} {p : Pass} {k src : Fin 16} {rest : List (Fin 16)}
    (hphase : (s.group g).phase = .passing) (hpass : (s.group g).pass = some p) (htodo : p.todo = k :: rest)
    (hsrc : s.sense.channels[k].source = some src) :
    s.needs g = if isMotion src then (if p.burst.isNone then some .port else none) else some .converter := by
  simp only [State.needs, hphase, hpass, htodo, hsrc]

theorem State.source_of_member {g : ScanGroup} {s : State} {k : Fin 16} (h : k ∈ s.members g) :
    ∃ src, s.sense.channels[k].source = some src := by
  have := (List.mem_filter.1 h).2
  unfold Channel.memberOf at this
  exact Option.isSome_iff_exists.1 ((Bool.and_eq_true_iff.1 this).1)

/-! A group's law, state by state. -/

theorem GroupLaw.of_stopped {g : ScanGroup} {s : State} (hphase : (s.group g).phase = .stopped) (hpass : (s.group g).pass = none)
    (htimer : (s.group g).timer = none) : GroupLaw g s := by
  simp [GroupLaw, hphase, hpass, htimer]

theorem GroupLaw.of_armed {g : ScanGroup} {s : State} (hphase : (s.group g).phase = .armed)
    (hpass : ∀ p, (s.group g).pass = some p → p.todo ≠ [] ∧ ∀ k ∈ p.todo, k ∈ s.members g)
    (hmode : (s.group g).pass.isSome → (s.group g).mode = .step)
    (htimer : (s.group g).timer.isSome ↔ (s.group g).trigger = .timer) : GroupLaw g s := by
  refine ⟨?_, ?_, ?_, hpass, fun _ => hmode, fun _ => htimer⟩ <;> simp [hphase]

theorem GroupLaw.of_passing {g : ScanGroup} {s : State} (hphase : (s.group g).phase = .passing)
    (hpass : ∀ p, (s.group g).pass = some p → p.todo ≠ [] ∧ ∀ k ∈ p.todo, k ∈ s.members g)
    (hneeds : (s.needs g).isSome) (htimer : (s.group g).timer.isSome ↔ (s.group g).trigger = .timer) : GroupLaw g s := by
  refine ⟨?_, ?_, fun _ => hneeds, hpass, ?_, fun _ => htimer⟩ <;> simp [hphase]

theorem GroupLaw.of_held {s : State} (hphase : (s.group .slow).phase = .held) (hhold : (s.group .slow).hold = true)
    (htaken : s.sense.snapshot.taken = false) (hpass : (s.group .slow).pass = none)
    (htimer : (s.group .slow).timer.isSome ↔ (s.group .slow).trigger = .timer) : GroupLaw .slow s := by
  refine ⟨?_, fun _ => ⟨rfl, hhold, htaken, hpass⟩, ?_, ?_, ?_, fun _ => htimer⟩ <;> simp [hphase, hpass]

/-- A group's law speaks of its record, of the channels, and, while it is HELD, of whether the snapshot is taken. A grant's stamp does not matter. -/
theorem GroupLaw.congr {g : ScanGroup} {s t : State} (h : GroupLaw g s) (hc : t.sense.channels = s.sense.channels)
    (hg : t.group g = s.group g ∨ ∃ now, t.group g = (s.group g).granted now)
    (htaken : (s.group g).phase = .held → g = .slow → t.sense.snapshot.taken = s.sense.snapshot.taken) : GroupLaw g t := by
  have hneeds : t.needs g = s.needs g := by
    rcases hg with hg | ⟨now, hg⟩
    · exact State.needs_congr hc hg
    · exact State.needs_of_granted hc hg
  obtain ⟨hstopped, hheld, hpassing, htodo, hmode, htimer⟩ := h
  have hheld' : (s.group g).phase = .held → g = .slow ∧ (s.group g).hold = true ∧ t.sense.snapshot.taken = false ∧
      (s.group g).pass = none := by
    intro hphase
    obtain ⟨hslow, hhold, hfree, hpass⟩ := hheld hphase
    exact ⟨hslow, hhold, (htaken hphase hslow).trans hfree, hpass⟩
  unfold GroupLaw
  rw [hneeds, State.members_congr hc]
  rcases hg with hg | ⟨now, hg⟩ <;> rw [hg]
  · exact ⟨hstopped, hheld', hpassing, htodo, hmode, htimer⟩
  · refine ⟨fun h => ?_, fun h => ?_, hpassing, fun p hp => ?_, fun h hp => ?_, htimer⟩
    · obtain ⟨hpass, htimer⟩ := hstopped h
      exact ⟨by simp [Group.granted, hpass], htimer⟩
    · obtain ⟨hslow, hhold, hfree, hpass⟩ := hheld' h
      exact ⟨hslow, hhold, hfree, by simp [Group.granted, hpass]⟩
    · obtain ⟨q, hq, rfl⟩ := Option.map_eq_some_iff.1 hp
      exact htodo q hq
    · exact hmode h (by simpa [Group.granted] using hp)

theorem SenseReady.congr {s t : State} (h : SenseReady s) (hc : t.sense.channels = s.sense.channels)
    (hg : ∀ g, t.group g = s.group g) (hu : ∀ r, t.inUse r = s.inUse r)
    (htaken : t.sense.snapshot.taken = s.sense.snapshot.taken) : SenseReady t := by
  obtain ⟨hgroups, huse⟩ := h
  refine ⟨fun g => (hgroups g).congr hc (.inl (hg g)) fun _ _ => htaken, fun r u hr => ?_⟩
  rw [State.needs_congr hc (hg _)]
  exact huse r u (hu r ▸ hr)

/-- The parts of the state that the laws of the scan groups speak of. -/
def groupParts : List Part := [.channels, .fast, .slow, .port, .converter, .snapshot]

/-- A change of other parts keeps the laws. -/
theorem SenseLaw.of_changes {P : List Part} {s t : State} (h : SenseLaw s) (hst : ChangesOnly P s t) (hP : ∀ p ∈ groupParts, p ∉ P) :
    SenseLaw t := by
  have hc := hst.channels_eq (hP _ (by decide))
  have hg := hst.group_eq (hP _ (by decide)) (hP _ (by decide))
  have hu := hst.inUse_eq (hP _ (by decide)) (hP _ (by decide))
  obtain ⟨hready, hserved⟩ := senseLaw_iff.1 h
  refine senseLaw_iff.2 ⟨hready.congr hc hg hu (congrArg _ (hst.snapshot_eq (hP _ (by decide)))), fun g r hneed => ?_⟩
  rw [hu]
  exact hserved g r (State.needs_congr hc (hg g) ▸ hneed)

/-- The arbiters make good what was left for them to do (R15). -/
theorem SenseReady.arbitrate {s : State} (h : SenseReady s) : SenseLaw s.arbitrate := by
  have hst := s.arbitrate_changes
  obtain ⟨hgroups, huse⟩ := h
  refine senseLaw_iff.2 ⟨⟨fun g => (hgroups g).congr (hst.channels_eq (by decide)) ?_ fun _ _ => congrArg _ (hst.snapshot_eq (by decide)),
    fun r u hr => ?_⟩, fun g r hneed => ?_⟩
  · by_cases hgranted : Granted g s s.arbitrate
    · exact .inr ⟨_, State.arbitrate_group_of_granted hgranted⟩
    · exact .inl (State.arbitrate_group_of_not_granted hgranted)
  · rw [State.arbitrate_needs]
    rw [State.arbitrate_inUse] at hr
    cases hfree : s.inUse r with
    | some v => exact huse r u (by simpa [hfree] using hr)
    | none =>
      obtain ⟨g, hg, rfl⟩ := Option.map_eq_some_iff.1 (by simpa [hfree] using hr)
      exact State.needs_of_chosen hg
  · rw [State.arbitrate_needs] at hneed
    rw [State.arbitrate_inUse]
    have : (s.chosen r).isSome := by
      cases g <;> simp only [State.chosen] <;> split <;> simp_all
    cases s.inUse r <;> simp [this]

/-! ### Passes keep the laws -/

/-- The first slot left by the samples served at once takes no value from the pass's burst, or the group rearms before it. -/
theorem State.servedAtOnce_stands {burst : Option HeldBurst} {mode : ScanMode} {todo rest : List (Fin 16)} {k : Fin 16} {s : State}
    (h : todo.drop (s.servedAtOnce burst mode todo).length = k :: rest) :
    burst = none ∨ s.takesBurst k = false ∨ mode = .step ∧ s.servedAtOnce burst mode todo ≠ [] := by
  rcases burst with _ | b
  · exact .inl rfl
  refine .inr ?_
  induction todo with
  | nil => simp at h
  | cons x xs ih =>
    cases htakes : s.takesBurst x
    · rw [State.servedAtOnce_of_not_takes htakes] at h
      obtain ⟨rfl, -⟩ := List.cons.inj h
      exact .inl htakes
    · rw [State.servedAtOnce_of_takes htakes] at h ⊢
      by_cases hstep : mode = .step
      · exact .inr ⟨hstep, List.cons_ne_nil _ _⟩
      · rw [if_neg hstep, List.length_cons, List.drop_succ_cons] at h
        rcases ih h with h | ⟨h, -⟩
        · exact .inl h
        · exact absurd h hstep

/-- A group whose pass stands at `rest` keeps its law, when those are member slots, of which the first needs a resource unless the group
rearms before it. -/
theorem State.standAt_groupLaw {g : ScanGroup} {p : Pass} {stepped : Bool} {rest : List (Fin 16)} {s : State}
    (htimer : (s.group g).timer.isSome ↔ (s.group g).trigger = .timer) (hmem : ∀ k ∈ rest, k ∈ s.members g)
    (hstands : ∀ k tail, rest = k :: tail →
      p.burst = none ∨ s.takesBurst k = false ∨ (s.group g).mode = .step ∧ stepped = true) :
    GroupLaw g (s.standAt g p stepped rest) := by
  rw [State.standAt]
  split
  next =>
    have hgroup := s.passComplete_group g p
    by_cases honce : (s.group g).mode = .once
    · refine .of_stopped ?_ ?_ ?_ <;> simp [hgroup, Group.completed, honce]
    · refine .of_armed ?_ ?_ ?_ ?_ <;> simp [hgroup, Group.completed, honce, htimer]
  next hleft =>
    generalize hx : ({ s.group g with
      phase := if (s.group g).mode = .step ∧ stepped = true then .armed else .passing
      pass := some { p with todo := rest } } : Group) = x
    have hpass : ∀ q, ((s.setGroup g x).group g).pass = some q → q.todo ≠ [] ∧ ∀ k ∈ q.todo, k ∈ (s.setGroup g x).members g := by
      rw [State.group_setGroup, State.members_congr (State.setGroup_sense_channels g x s), ← hx]
      rintro q ⟨⟩
      exact ⟨hleft, hmem⟩
    by_cases harmed : (s.group g).mode = .step ∧ stepped = true
    · refine .of_armed ?_ hpass ?_ ?_ <;> simp [← hx, harmed, htimer]
    · refine .of_passing ?_ hpass ?_ ?_
      · simp [← hx, harmed]
      · obtain ⟨k, tail, rfl⟩ := List.exists_cons_of_ne_nil hleft
        obtain ⟨src, hsrc⟩ := State.source_of_member (hmem k List.mem_cons_self)
        have hphase : ((s.setGroup g x).group g).phase = .passing := by simp [← hx, harmed]
        have hp : ((s.setGroup g x).group g).pass = some { p with todo := k :: tail } := by simp [← hx]
        rw [State.needs_of_passing hphase hp rfl ((congrArg (fun v => v[k].source) (State.setGroup_sense_channels g x s)).trans hsrc)]
        split
        next hmotion =>
          rcases hstands k tail rfl with hb | hb | hb
          · simp [hb]
          · rw [State.takesBurst_of_source hsrc, hmotion] at hb
            cases hb
          · exact absurd hb harmed
        next => rfl
      · simp [← hx, htimer]

theorem State.standAt_changes (g : ScanGroup) (p : Pass) (stepped : Bool) (rest : List (Fin 16)) (s : State) :
    ChangesOnly [.fast, .slow, .snapshot, .pose, .raised, .notice] s (s.standAt g p stepped rest) := by
  rw [State.standAt]
  split
  · exact s.passComplete_changes_only g p
  · exact (s.setGroup_changes g _).mono (by decide)

theorem State.standAt_group_of_ne {g h : ScanGroup} (hne : h ≠ g) (p : Pass) (stepped : Bool) (rest : List (Fin 16)) (s : State) :
    (s.standAt g p stepped rest).group h = s.group h := by
  rw [State.standAt]
  split
  · exact State.passComplete_group_of_ne hne p s
  · exact State.group_setGroup_of_ne hne _ s

/-- FAST's pass does not touch the Snapshot record. -/
theorem State.standAt_fast_snapshot (p : Pass) (stepped : Bool) (rest : List (Fin 16)) (s : State) :
    (s.standAt .fast p stepped rest).sense.snapshot = s.sense.snapshot := by
  rw [State.standAt]
  split
  · exact s.passComplete_fast_snapshot p
  · exact State.setGroup_sense_snapshot _ _ s

/-- Group `g` may go on with a pass: it has its schedule, nothing is in flight for it, and the rest of the Sense Engine keeps its laws. -/
structure MayPass (g : ScanGroup) (s : State) : Prop where
  timer : (s.group g).timer.isSome ↔ (s.group g).trigger = .timer
  others : ∀ h : ScanGroup, h ≠ g → GroupLaw h s
  inUse : ∀ (r : Resource) (u : InFlight), s.inUse r = some u → u.owner ≠ g ∧ s.needs u.owner = some r

theorem MayPass.standAt_ready {g : ScanGroup} {s : State} (may : MayPass g s) {p : Pass} {stepped : Bool} {rest : List (Fin 16)}
    (hmem : ∀ k ∈ rest, k ∈ s.members g)
    (hstands : ∀ k tail, rest = k :: tail →
      p.burst = none ∨ s.takesBurst k = false ∨ (s.group g).mode = .step ∧ stepped = true) :
    SenseReady (s.standAt g p stepped rest) := by
  have hst := s.standAt_changes g p stepped rest
  have hc := hst.channels_eq (by decide)
  refine ⟨fun h => ?_, fun r u hr => ?_⟩
  · rcases eq_or_ne h g with rfl | hne
    · exact State.standAt_groupLaw may.timer hmem hstands
    · refine (may.others h hne).congr hc (.inl (State.standAt_group_of_ne hne p stepped rest s)) fun _ hslow => ?_
      cases g
      · rw [State.standAt_fast_snapshot]
      · exact absurd hslow hne
  · rw [hst.inUse_eq (by decide) (by decide)] at hr
    obtain ⟨hne, hneeds⟩ := may.inUse r u hr
    rw [State.needs_congr hc (State.standAt_group_of_ne hne p stepped rest s), hneeds]

theorem MayPass.takeSamples {g : ScanGroup} {s : State} (may : MayPass g s) (es : List SampleEntry) : MayPass g (s.takeSamples es) := by
  have hst := s.takeSamples_changes es
  have hc := hst.channels_eq (by decide)
  have hg := hst.group_eq (by decide) (by decide)
  refine ⟨by rw [hg]; exact may.timer, fun h hne => (may.others h hne).congr hc (.inl (hg h)) fun _ _ =>
    congrArg _ (hst.snapshot_eq (by decide)), fun r u hr => ?_⟩
  rw [hst.inUse_eq (by decide) (by decide)] at hr
  rw [State.needs_congr hc (hg _)]
  exact may.inUse r u hr

/-- A pass that goes on over member slots leaves the groups as they may stand before the arbiters act. -/
theorem MayPass.walk_ready {g : ScanGroup} {s : State} (may : MayPass g s) (p : Pass) {todo : List (Fin 16)}
    (hmem : ∀ k ∈ todo, k ∈ s.members g) : SenseReady (s.walk g p todo) := by
  rw [State.walk_eq]
  refine (may.takeSamples _).standAt_ready (fun k hk => ?_) fun k tail hrest => ?_
  · rw [State.members_congr (State.takeSamples_channels _ s)]
    exact hmem k (List.mem_of_mem_drop hk)
  · rw [State.takesBurst_congr (State.takeSamples_channels _ s), State.takeSamples_group]
    simpa using State.servedAtOnce_stands hrest

end Sys2Proof.Machine
end

section
namespace Sys2Proof.Machine

/-! ### The Sense Engine's operations keep the laws -/

/-- A running group that is not PASSING has nothing in flight, and may go on with a pass. -/
theorem SenseReady.mayPass {g : ScanGroup} {s : State} (h : SenseReady s) (hstopped : (s.group g).phase ≠ .stopped)
    (hpassing : (s.group g).phase ≠ .passing) : MayPass g s := by
  obtain ⟨hgroups, huse⟩ := h
  obtain ⟨-, -, -, -, -, htimer⟩ := hgroups g
  refine ⟨htimer hstopped, fun h _ => hgroups h, fun r u hr => ⟨?_, huse r u hr⟩⟩
  rintro rfl
  simpa [State.needs_of_not_passing hpassing] using huse r u hr

theorem MayPass.startPass_ready {g : ScanGroup} {s : State} (may : MayPass g s) : SenseReady (s.startPass g) :=
  may.walk_ready _ fun _ hk => hk

theorem SenseReady.trigger {s : State} (h : SenseReady s) (g : ScanGroup) : SenseReady (s.trigger g) := by
  have hraise : SenseReady (s.raise .scanOverrun) := h.congr rfl (fun g => by cases g <;> rfl) (fun r => by cases r <;> rfl) rfl
  cases hphase : (s.group g).phase with
  | stopped => simpa only [State.trigger, hphase] using h
  | passing => simpa only [State.trigger, hphase] using hraise
  | held => simpa only [State.trigger, hphase] using hraise
  | armed =>
    have may := h.mayPass (g := g) (by simp [hphase]) (by simp [hphase])
    obtain ⟨-, -, -, htodo, -, -⟩ := h.1 g
    cases hpass : (s.group g).pass with
    | some p =>
      simp only [State.trigger, hphase, hpass]
      exact may.walk_ready p (htodo p hpass).2
    | none =>
      simp only [State.trigger, hphase, hpass]
      split
      next hheld =>
        obtain ⟨rfl, hhold, htaken⟩ := hheld
        refine ⟨fun g' => ?_, fun r u hr => ?_⟩
        · cases g'
          · exact (h.1 .fast).congr (State.setGroup_sense_channels _ _ s) (.inl (State.group_setGroup_of_ne (by decide) _ s))
              (fun _ h => by cases h)
          · refine .of_held ?_ ?_ ?_ ?_ ?_ <;> simp [hhold, htaken, may.timer]
        · obtain ⟨hne, hneeds⟩ := may.inUse r u (by cases r <;> exact hr)
          rw [State.needs_congr (State.setGroup_sense_channels _ _ s) (State.group_setGroup_of_ne hne _ s), hneeds]
      next => exact may.startPass_ready

/-- Replacing a group's record where nothing is in flight for it, and where it then keeps its law, keeps the others'. -/
theorem SenseReady.setGroup {g : ScanGroup} {x : Group} {s : State} (h : SenseReady s)
    (hx : GroupLaw g (s.setGroup g x)) (hidle : (s.setGroup g x).needs g = s.needs g ∨
      ∀ (r : Resource) (u : InFlight), s.inUse r = some u → u.owner ≠ g) : SenseReady (s.setGroup g x) := by
  have hst := s.setGroup_changes g x
  have hc := hst.channels_eq (by decide)
  refine ⟨fun g' => ?_, fun r u hr => ?_⟩
  · rcases eq_or_ne g' g with rfl | hne
    · exact hx
    · exact (h.1 g').congr hc (.inl (State.group_setGroup_of_ne hne _ s)) fun _ _ => congrArg _ (hst.snapshot_eq (by decide))
  · rw [hst.inUse_eq (by decide) (by decide)] at hr
    rcases eq_or_ne u.owner g with howner | hne
    · rcases hidle with hneeds | hfree
      · rw [howner, hneeds, ← howner]
        exact h.2 r u hr
      · exact absurd howner (hfree r u hr)
    · rw [State.needs_congr hc (State.group_setGroup_of_ne hne _ s)]
      exact h.2 r u hr

theorem State.setGroup_needs_of_same {g : ScanGroup} {x : Group} {s : State} (hphase : x.phase = (s.group g).phase)
    (hpass : x.pass = (s.group g).pass) : (s.setGroup g x).needs g = s.needs g := by
  simp [State.needs, hphase, hpass]

/-- A running group with trigger TIMER keeps its law when its schedule moves on (R12). -/
theorem GroupLaw.rescheduled {g : ScanGroup} {s : State} (h : GroupLaw g s) (hrun : (s.group g).phase ≠ .stopped)
    (htrigger : (s.group g).trigger = .timer) (x : TimerSchedule) :
    GroupLaw g (s.setGroup g { s.group g with timer := some x }) := by
  obtain ⟨-, hheld, hpassing, htodo, hmode, -⟩ := h
  have hneeds : (s.setGroup g { s.group g with timer := some x }).needs g = s.needs g := State.setGroup_needs_of_same rfl rfl
  unfold GroupLaw
  rw [hneeds, State.members_congr (State.setGroup_sense_channels g _ s), State.group_setGroup, State.setGroup_sense_snapshot]
  exact ⟨fun h => absurd h hrun, hheld, hpassing, htodo, hmode, fun _ => by simp [htrigger]⟩

theorem SenseReady.timerTrigger {s : State} {g : ScanGroup} (h : SenseReady s) (hrun : (s.group g).phase ≠ .stopped)
    (htrigger : (s.group g).trigger = .timer) : SenseLaw (s.timerTrigger g) :=
  ((h.setGroup ((h.1 g).rescheduled hrun htrigger _) (.inl (State.setGroup_needs_of_same rfl rfl))).trigger g).arbitrate

theorem SenseReady.latchTriggers {s : State} (h : SenseReady s) : SenseLaw s.latchTriggers := by
  have one : ∀ (g : ScanGroup) (u : State), SenseReady u → SenseReady (if (u.group g).trigger = .latch then u.trigger g else u) := by
    intro g u hu
    split
    · exact hu.trigger g
    · exact hu
  exact (one .slow _ (one .fast s h)).arbitrate

/-- The laws hold of a state whose groups all keep theirs once group `g` is out of the way, and whose resources serve only others. -/
theorem SenseReady.stop {s : State} (h : SenseReady s) (g : ScanGroup) : SenseReady
    ((s.setGroup g { s.group g with phase := .stopped, pass := none, timer := none }).abandonInFlight g) := by
  generalize hx : ({ s.group g with phase := .stopped, pass := none, timer := none } : Group) = x
  have hst := (s.setGroup g x).abandonInFlight_changes g
  have hc := (hst.channels_eq (by decide)).trans (State.setGroup_sense_channels g x s)
  have hg := hst.group_eq (by decide) (by decide)
  have htaken := congrArg Snapshot.taken ((hst.snapshot_eq (by decide)).trans (State.setGroup_sense_snapshot g x s))
  have hother : ∀ h, h ≠ g → ((s.setGroup g x).abandonInFlight g).group h = s.group h := fun h hne =>
    (hg h).trans (State.group_setGroup_of_ne hne x s)
  have huse : ∀ r, ((s.setGroup g x).abandonInFlight g).inUse r = (s.inUse r).filter fun u => u.owner != g := by
    intro r
    cases r <;> simp [State.inUse, State.abandonInFlight]
  refine ⟨fun h' => ?_, fun r u hr => ?_⟩
  · rcases eq_or_ne h' g with rfl | hne
    · refine .of_stopped ?_ ?_ ?_ <;> rw [hg, State.group_setGroup, ← hx]
    · exact (h.1 h').congr hc (.inl (hother h' hne)) fun _ _ => htaken
  · rw [huse, Option.filter_eq_some_iff] at hr
    obtain ⟨hr, howner⟩ := hr
    rw [State.needs_congr hc (hother _ (by simpa using howner))]
    exact h.2 r u hr

theorem SenseReady.stopGroup {s : State} (h : SenseReady s) (g : ScanGroup) : SenseLaw (s.stopGroup g) := (h.stop g).arbitrate

theorem SenseReady.forceStopFast {s : State} (h : SenseReady s) : SenseLaw s.forceStopFast :=
  (h.stopGroup .fast).of_changes (State.clearHistory_changes _) (by decide)

/-- A group that is not PASSING, before and after, needs no resource: its record may be replaced by any that keeps its law. -/
theorem SenseLaw.setGroup {s : State} (h : SenseLaw s) {g : ScanGroup} {x : Group} (hlaw : GroupLaw g (s.setGroup g x))
    (hbefore : (s.group g).phase ≠ .passing) (hafter : x.phase ≠ .passing) : SenseLaw (s.setGroup g x) := by
  have hst := s.setGroup_changes g x
  have hidle : s.needs g = none := State.needs_of_not_passing hbefore
  have hidle' : (s.setGroup g x).needs g = none := State.needs_of_not_passing (by simpa using hafter)
  refine senseLaw_iff.2 ⟨h.ready.setGroup hlaw (.inl (hidle'.trans hidle.symm)), fun g' r hneed => ?_⟩
  rw [hst.inUse_eq (by decide) (by decide)]
  refine (senseLaw_iff.1 h).2 g' r ?_
  rcases eq_or_ne g' g with rfl | hne
  · simp [hidle'] at hneed
  · rw [← State.needs_congr (hst.channels_eq (by decide)) (State.group_setGroup_of_ne hne x s), hneed]

/-- A STOPPED group that is armed keeps the laws (R16). -/
theorem SenseLaw.armGroup {s : State} (h : SenseLaw s) {g : ScanGroup} (hstopped : (s.group g).phase = .stopped) :
    SenseLaw (s.armGroup g) := by
  refine h.setGroup (.of_armed ?_ ?_ ?_ ?_) ?_ ?_ <;> simp [hstopped]

/-- The record of a STOPPED group, rewritten, keeps the laws (R9). -/
theorem SenseLaw.setGroup_of_stopped {s : State} (h : SenseLaw s) {g : ScanGroup} {x : Group} (hstopped : (s.group g).phase = .stopped)
    (hx : x.phase = (s.group g).phase ∧ x.pass = (s.group g).pass ∧ x.timer = (s.group g).timer) : SenseLaw (s.setGroup g x) := by
  obtain ⟨hphase, hpass, htimer⟩ := hx
  obtain ⟨hnone, -⟩ := h.ready.1 g
  obtain ⟨hp, ht⟩ := hnone hstopped
  refine h.setGroup (.of_stopped ?_ ?_ ?_) ?_ ?_ <;> simp [*]

theorem SenseLaw.startGroup {s : State} (h : SenseLaw s) (g : ScanGroup) : SenseLaw (s.startGroup g) := by
  unfold State.startGroup
  split
  next hstopped =>
    dsimp only
    split
    · exact (h.armGroup hstopped).of_changes (State.clearHistory_changes _) (by decide)
    · exact h.armGroup hstopped
  next =>
    split
    · exact (h.ready.trigger g).arbitrate
    · exact h
  all_goals exact h

/-- A group that needs a resource is PASSING, and its pass stands at a slot (R13). -/
theorem State.passing_of_needs {g : ScanGroup} {r : Resource} {s : State} (h : s.needs g = some r) :
    (s.group g).phase = .passing ∧ ∃ p k rest, (s.group g).pass = some p ∧ p.todo = k :: rest := by
  unfold State.needs at h
  split at h
  next p hphase hpass =>
    split at h
    next => cases h
    next k rest htodo => exact ⟨hphase, p, k, rest, hpass, htodo⟩
  next => cases h

/-- A completion frees its resource, and the pass that it served may go on. -/
theorem SenseReady.mayPass_of_freed {s m : State} {r : Resource} {v : InFlight} (h : SenseReady s) (hv : s.inUse r = some v)
    (hm : ChangesOnly [.port, .converter] s m) (hfree : m.inUse r = none) (hkeep : ∀ y, y ≠ r → m.inUse y = s.inUse y) :
    MayPass v.owner m := by
  have hc := hm.channels_eq (by decide)
  have hg := hm.group_eq (by decide) (by decide)
  have hneeds := h.2 r v hv
  obtain ⟨hpassing, -⟩ := State.passing_of_needs hneeds
  obtain ⟨-, -, -, -, -, htimer⟩ := h.1 v.owner
  refine ⟨by rw [hg]; exact htimer (by simp [hpassing]), fun g _ => (h.1 g).congr hc (.inl (hg g)) fun _ _ =>
    congrArg _ (hm.snapshot_eq (by decide)), fun y u hu => ?_⟩
  have hy : y ≠ r := by
    rintro rfl
    simp [hfree] at hu
  rw [hkeep y hy] at hu
  rw [State.needs_congr hc (hg _), h.2 y u hu]
  refine ⟨fun howner => hy ?_, rfl⟩
  have := h.2 y u hu
  rw [howner, hneeds] at this
  exact (Option.some.inj this).symm

/-- The sensor port, free. -/
def State.freePort (s : State) : State := { s with sense := { s.sense with port := none } }

/-- The converter, free. -/
def State.freeConverter (s : State) : State := { s with sense := { s.sense with converter := none } }

theorem State.freePort_changes (s : State) : ChangesOnly [.port] s s.freePort := by
  intro p hp
  cases p <;> simp_all [Part.same, State.freePort]

theorem State.freeConverter_changes (s : State) : ChangesOnly [.converter] s s.freeConverter := by
  intro p hp
  cases p <;> simp_all [Part.same, State.freeConverter]

@[simp] theorem State.freePort_channels (s : State) : s.freePort.sense.channels = s.sense.channels := rfl
@[simp] theorem State.freeConverter_channels (s : State) : s.freeConverter.sense.channels = s.sense.channels := rfl
@[simp] theorem State.freePort_group (g : ScanGroup) (s : State) : s.freePort.group g = s.group g :=
  s.freePort_changes.group_eq (by decide) (by decide) g
@[simp] theorem State.freeConverter_group (g : ScanGroup) (s : State) : s.freeConverter.group g = s.group g :=
  s.freeConverter_changes.group_eq (by decide) (by decide) g

/-- The burst in flight completes for the pass that it serves (R3, R13). -/
theorem State.burstDone_eq {s : State} {v : InFlight} {p : Pass} (raw : SixAxes) (hv : s.sense.port = some v)
    (hpass : (s.group v.owner).pass = some p) :
    s.burstDone raw = (s.freePort.walk v.owner { p with burst := some ⟨raw, v.start⟩ } p.todo).arbitrate := by
  have hfree : State.burstDone raw s = match (s.freePort.group v.owner).pass with
      | none => s.freePort.arbitrate
      | some p => (s.freePort.walk v.owner { p with burst := some ⟨raw, v.start⟩ } p.todo).arbitrate := by
    simp only [State.burstDone, hv]
    rfl
  rw [hfree, State.freePort_group, hpass]

theorem SenseLaw.burstDone {s : State} (h : SenseLaw s) (raw : SixAxes) : SenseLaw (s.burstDone raw) := by
  rcases hv : s.sense.port with _ | v
  · simpa only [State.burstDone, hv] using h
  have may := h.ready.mayPass_of_freed (r := .port) hv (s.freePort_changes.mono (by decide)) rfl (fun y hy => by
    cases y
    · exact absurd rfl hy
    · rfl)
  obtain ⟨-, p, -, -, hpass, -⟩ := State.passing_of_needs (h.ready.2 .port v hv)
  obtain ⟨-, -, -, htodo, -, -⟩ := h.ready.1 v.owner
  rw [State.burstDone_eq raw hv hpass]
  exact (may.walk_ready _ (State.members_congr s.freePort_channels _ ▸ (htodo p hpass).2)).arbitrate

/-- The pass that goes on after a conversion takes what its burst serves behind it, but in mode STEP, and stands at what is left. -/
theorem State.walkOn_eq (g : ScanGroup) (p : Pass) (rest : List (Fin 16)) (s : State) {ks : List (Fin 16)}
    (hks : ks = if (s.group g).mode = .step then [] else s.servedAtOnce p.burst (s.group g).mode rest) :
    s.walkOn g p rest = (s.takeSamples (s.samplesAtOnce p.burst ks)).standAt g p true (rest.drop ks.length) := by
  subst hks
  unfold State.walkOn
  by_cases hstep : (s.group g).mode = .step
  · rcases eq_or_ne rest [] with rfl | hleft
    · simp [hstep, State.walk, State.standAt]
    · simp [hstep, hleft, State.standAt]
  · rw [if_neg (by simp [hstep]), if_neg hstep, State.walk_eq]
    simp [State.standAt, hstep]

/-- The conversion in flight completes the slot that its pass stands at, and with it what the pass's burst serves behind it (R4, R13). -/
theorem State.conversionDone_eq {s : State} {v : InFlight} {p : Pass} {k : Fin 16} {tail ks : List (Fin 16)} (raw : BitVec 12)
    (hv : s.sense.converter = some v) (hpass : (s.group v.owner).pass = some p) (htodo : p.todo = k :: tail)
    (hks : ks = if (s.group v.owner).mode = .step then [] else s.servedAtOnce p.burst (s.group v.owner).mode tail) :
    s.conversionDone raw = ((s.freeConverter.takeSamples
      (⟨k, s.sense.channels[k].correct (conversionValue s.sense.channels[k].source raw), v.start⟩ ::
        s.samplesAtOnce p.burst ks)).standAt v.owner p true (tail.drop ks.length)).arbitrate := by
  have hfree : State.conversionDone raw s = match (s.freeConverter.group v.owner).pass with
      | none => s.freeConverter.arbitrate
      | some p => match p.todo with
        | [] => s.freeConverter.arbitrate
        | k :: rest => ((s.freeConverter.sampleComplete k
            (conversionValue s.freeConverter.sense.channels[k].source raw) v.start).walkOn v.owner p rest).arbitrate := by
    simp only [State.conversionDone, hv]
    rfl
  have hc := s.freeConverter.takeSample_channels
    ⟨k, s.sense.channels[k].correct (conversionValue s.sense.channels[k].source raw), v.start⟩
  rw [hfree, State.freeConverter_group, hpass]
  simp only [htodo, State.sampleComplete_eq, State.freeConverter_channels]
  rw [State.walkOn_eq (ks := ks), State.samplesAtOnce_congr (hc.trans s.freeConverter_channels), State.takeSamples_cons]
  rw [State.takeSample_group, State.freeConverter_group, State.servedAtOnce_congr (hc.trans s.freeConverter_channels), hks]

theorem SenseLaw.conversionDone {s : State} (h : SenseLaw s) (raw : BitVec 12) : SenseLaw (s.conversionDone raw) := by
  rcases hv : s.sense.converter with _ | v
  · simpa only [State.conversionDone, hv] using h
  have may := h.ready.mayPass_of_freed (r := .converter) hv (s.freeConverter_changes.mono (by decide)) rfl (fun y hy => by
    cases y
    · rfl
    · exact absurd rfl hy)
  obtain ⟨-, p, k, tail, hpass, htodo⟩ := State.passing_of_needs (h.ready.2 .converter v hv)
  obtain ⟨-, -, -, hmember, -, -⟩ := h.ready.1 v.owner
  have hmem : ∀ x ∈ tail, x ∈ s.members v.owner := fun x hx => (hmember p hpass).2 x (htodo ▸ List.mem_cons_of_mem k hx)
  rw [State.conversionDone_eq raw hv hpass htodo rfl]
  refine SenseReady.arbitrate ((may.takeSamples _).standAt_ready (fun x hx => ?_) fun x xs hrest => ?_)
  · rw [State.members_congr (State.takeSamples_channels _ _)]
    exact hmem x (List.mem_of_mem_drop hx)
  · rw [State.takesBurst_congr (State.takeSamples_channels _ _), State.takeSamples_group, State.freeConverter_group]
    by_cases hstep : (s.group v.owner).mode = .step
    · exact .inr (.inr ⟨hstep, rfl⟩)
    · rw [if_neg hstep] at hrest
      rcases State.servedAtOnce_stands hrest with hb | hb | ⟨hb, -⟩
      · exact .inl hb
      · exact .inr (.inl hb)
      · exact absurd hb hstep

end Sys2Proof.Machine
end

section
namespace Sys2Proof.Machine

/-! ### The snapshot taken, and the writes of the sense tables -/

/-- The Snapshot record marked taken (R24). -/
def State.markTaken (s : State) : State := { s with sense := { s.sense with snapshot := { s.sense.snapshot with taken := true } } }

theorem State.markTaken_changes (s : State) : ChangesOnly [.snapshot] s s.markTaken := by
  intro p hp
  cases p <;> simp_all [Part.same, State.markTaken]

theorem State.takeSnapshot_of_taken {s : State} (h : s.sense.snapshot.taken = true) : s.takeSnapshot = s := if_pos h

theorem State.takeSnapshot_of_not_held {s : State} (h : s.sense.snapshot.taken = false) (hphase : s.sense.slow.phase ≠ .held) :
    s.takeSnapshot = s.markTaken := (if_neg (by simp [h])).trans (if_neg hphase)

/-- A HELD group is released into its pass (R25). -/
theorem State.takeSnapshot_of_held {s : State} (h : s.sense.snapshot.taken = false) (hphase : s.sense.slow.phase = .held) :
    s.takeSnapshot = (s.markTaken.startPass .slow).arbitrate := (if_neg (by simp [h])).trans (if_pos hphase)

theorem SenseLaw.takeSnapshot {s : State} (h : SenseLaw s) : SenseLaw s.takeSnapshot := by
  cases htaken : s.sense.snapshot.taken with
  | true => rwa [State.takeSnapshot_of_taken htaken]
  | false =>
    have hst := s.markTaken_changes
    have hc := hst.channels_eq (by decide)
    have hg := hst.group_eq (by decide) (by decide)
    have hu := hst.inUse_eq (by decide) (by decide)
    obtain ⟨⟨hgroups, huse⟩, hserved⟩ := senseLaw_iff.1 h
    have hfast : GroupLaw .fast s.markTaken := (hgroups .fast).congr hc (.inl (hg _)) fun _ h => by cases h
    have hneeds : ∀ r u, s.markTaken.inUse r = some u → s.markTaken.needs u.owner = some r := fun r u hr => by
      rw [State.needs_congr hc (hg _)]
      exact huse r u (hu r ▸ hr)
    by_cases hheld : (s.group .slow).phase = .held
    · have may := h.ready.mayPass (g := .slow) (by simp [hheld]) (by simp [hheld])
      rw [State.takeSnapshot_of_held htaken hheld]
      refine SenseReady.arbitrate (MayPass.startPass_ready ⟨by rw [hg]; exact may.timer, fun g hne => ?_, fun r u hr =>
        ⟨(may.inUse r u (hu r ▸ hr)).1, hneeds r u hr⟩⟩)
      cases g
      · exact hfast
      · exact absurd rfl hne
    · rw [State.takeSnapshot_of_not_held htaken hheld]
      have hslow : GroupLaw .slow s.markTaken := (hgroups .slow).congr hc (.inl (hg _)) fun h => absurd h hheld
      refine senseLaw_iff.2 ⟨⟨fun g => ?_, hneeds⟩, fun g r hneed => ?_⟩
      · cases g <;> assumption
      · rw [hu]
        exact hserved g r (State.needs_congr hc (hg g) ▸ hneed)

/-- A slot whose record names a group that does not run is no member of a group that runs. -/
theorem State.not_memberOf_of_not_runs {g : ScanGroup} {c : Channel} {s : State} (hstops : s.groupRuns c.group = false)
    (hruns : (s.group g).phase ≠ .stopped) : c.memberOf g = false := by
  cases g <;> cases hgroup : c.group <;> simp_all [Channel.memberOf, State.groupRuns, State.group]

/-- A write of a slot that belongs to no running group, before or after, leaves the running groups' member slots. -/
theorem State.writeChannel_members {k : Fin 16} {mask : BitVec 32} {c : Channel} {s : State} {g : ScanGroup}
    (hold : s.sense.channels[k].memberOf g = false) (hnew : c.memberOf g = false) :
    (s.writeChannel k mask c).members g = s.members g := by
  refine List.filter_congr fun j _ => ?_
  rcases eq_or_ne j k with rfl | hne
  · simpa [State.writeChannel, hnew] using hold.symm
  · have : k.val ≠ j.val := fun h => hne (Fin.ext h.symm)
    simp [State.writeChannel, Vector.getElem_set_ne, this]

theorem SenseLaw.writeChannel {s : State} (h : SenseLaw s) {k : Fin 16} {c : Channel} (mask : BitVec 32)
    (hold : s.groupRuns s.sense.channels[k].group = false) (hnew : s.groupRuns c.group = false) :
    SenseLaw (s.writeChannel k mask c) := by
  have hg : ∀ g, (s.writeChannel k mask c).group g = s.group g := fun g => by cases g <;> rfl
  have hu : ∀ r, (s.writeChannel k mask c).inUse r = s.inUse r := fun r => by cases r <;> rfl
  obtain ⟨⟨hgroups, huse⟩, hserved⟩ := senseLaw_iff.1 h
  have hmembers : ∀ g, (s.group g).phase ≠ .stopped → (s.writeChannel k mask c).members g = s.members g := fun g hruns =>
    State.writeChannel_members (State.not_memberOf_of_not_runs hold hruns) (State.not_memberOf_of_not_runs hnew hruns)
  have hneeds : ∀ g, (s.writeChannel k mask c).needs g = s.needs g := by
    intro g
    by_cases hphase : (s.group g).phase = .passing
    · obtain ⟨-, -, -, htodo, -, -⟩ := hgroups g
      unfold State.needs
      rw [hg, hphase]
      cases hpass : (s.group g).pass with
      | none => rfl
      | some p =>
        rcases hp : p.todo with _ | ⟨j, rest⟩
        · simp only [hp]
        · have hmem := (htodo p hpass).2 j (hp ▸ List.mem_cons_self)
          have hne : k.val ≠ j.val := by
            intro hkj
            obtain rfl := Fin.ext hkj
            have := (List.mem_filter.1 hmem).2
            rw [State.not_memberOf_of_not_runs hold (by simp [hphase])] at this
            cases this
          simp [hp, State.writeChannel, Vector.getElem_set_ne, hne]
    · rw [State.needs_of_not_passing hphase, State.needs_of_not_passing (by rwa [hg])]
  refine senseLaw_iff.2 ⟨⟨fun g => ?_, fun r u hr => ?_⟩, fun g r hneed => ?_⟩
  · by_cases hphase : (s.group g).phase = .stopped
    · obtain ⟨hnone, -⟩ := hgroups g
      obtain ⟨hpass, htimer⟩ := hnone hphase
      exact .of_stopped (by rw [hg, hphase]) (by rw [hg, hpass]) (by rw [hg, htimer])
    · have := hgroups g
      unfold GroupLaw at *
      rwa [hneeds, hg, hmembers g hphase]
  · rw [hneeds]
    exact huse r u (hu r ▸ hr)
  · rw [hu]
    exact hserved g r (hneeds g ▸ hneed)

/-! ### The Power Unit's push, and the resets -/

/-- A state with the same Sense Engine keeps the same laws. -/
theorem SenseLaw.of_sense_eq {s t : State} (h : SenseLaw s) (hst : t.sense = s.sense) : SenseLaw t := by
  have hc := congrArg Sense.channels hst
  have hg : ∀ g, t.group g = s.group g := fun g => by cases g <;> simp only [State.group, hst]
  have hu : ∀ r, t.inUse r = s.inUse r := fun r => by cases r <;> simp only [State.inUse, hst]
  obtain ⟨hready, hserved⟩ := senseLaw_iff.1 h
  refine senseLaw_iff.2 ⟨hready.congr hc hg hu (by rw [hst]), fun g r hneed => ?_⟩
  rw [hu]
  exact hserved g r (State.needs_congr hc (hg g) ▸ hneed)

theorem SenseLaw.takePush {s : State} (h : SenseLaw s) (fastWas captureWas : Bool) : SenseLaw (s.takePush fastWas captureWas) := by
  have hblocks : SenseLaw (s.followDemand.limitBrightness.emptyIfBarred.stopCaptureIfEnded captureWas) :=
    (((h.of_changes (State.followDemand_changes _) (by decide)).of_changes (State.limitBrightness_changes _) (by decide)).of_changes
      (State.emptyIfBarred_changes _) (by decide)).of_changes (State.stopCaptureIfEnded_changes _ _) (by decide)
  unfold State.takePush
  dsimp only
  split
  · exact hblocks.ready.forceStopFast
  · exact hblocks

/-- The Power Unit's state replaced, before the push that follows. -/
def State.withPower (p : Power) (s : State) : State := { s with power := p }

@[simp] theorem State.withPower_sense (p : Power) (s : State) : (s.withPower p).sense = s.sense := rfl

theorem SenseLaw.changePower {s : State} (h : SenseLaw s) (p : Power) : SenseLaw (s.changePower p) :=
  (h.of_sense_eq (s.withPower_sense p)).takePush _ _

/-- An event raised and a stance answer placed. -/
theorem SenseLaw.settled {s : State} (h : SenseLaw s) (k : EventKind) : SenseLaw (s.raise k).settleAnswer :=
  (h.of_changes (s.raise_changes k) (by decide)).of_changes (State.settleAnswer_changes _) (by decide)

theorem SenseLaw.evaluate {s : State} (h : SenseLaw s) : SenseLaw s.evaluate := by
  unfold State.evaluate
  dsimp only
  split
  · exact (h.changePower _).settled _
  · split
    · split
      · exact (h.changePower _).settled _
      · exact h.changePower _
    · exact h

theorem SenseLaw.rampStep {s : State} (h : SenseLaw s) (r : Ramp) : SenseLaw (s.rampStep r) := by
  unfold State.rampStep
  dsimp only
  split
  · exact (h.changePower _).settled _
  · exact h.changePower _

theorem SenseLaw.stanceCheck {s : State} (h : SenseLaw s) : SenseLaw s.stanceCheck := by
  have hmarked : SenseLaw (s.withPower { s.power with checkDue := s.clock.now + 10000 }).setMarks :=
    (h.of_sense_eq (s.withPower_sense _)).of_changes (State.setMarks_changes _) (by decide)
  show SenseLaw (let u := (s.withPower { s.power with checkDue := s.clock.now + 10000 }).setMarks
    if u.target = u.power.inEffect then (match u.power.ramp with | some r => u.rampStep r | none => u) else u.evaluate)
  dsimp only
  split
  · split
    · exact hmarked.rampStep _
    · exact hmarked
  · exact hmarked.evaluate

theorem SenseLaw.writeStance {s : State} (h : SenseLaw s) (i : Fin 4) (x : StanceRecord) : SenseLaw (s.writeStance i x) := by
  unfold State.writeStance
  dsimp only
  split
  · exact h.changePower _
  · exact h.of_sense_eq rfl

/-- The Sense Engine at its defaults keeps its laws (R9, R19). -/
theorem senseLaw_of_default {s : State} {t : Time} (h : s.sense = Sense.default t) : SenseLaw s := by
  have hfast : s.group .fast = Group.fastDefault := by simp only [State.group, h, Sense.default]
  have hslow : s.group .slow = Group.slowDefault t := by simp only [State.group, h, Sense.default]
  have hidle : ∀ g, s.needs g = none := fun g => State.needs_of_not_passing (by
    cases g
    · simp [hfast, Group.fastDefault]
    · simp [hslow, Group.slowDefault])
  have hfree : ∀ r, s.inUse r = none := fun r => by cases r <;> simp only [State.inUse, h, Sense.default]
  refine senseLaw_iff.2 ⟨⟨fun g => ?_, fun r u hr => by simp [hfree] at hr⟩, fun g r hneed => by simp [hidle] at hneed⟩
  cases g
  · refine .of_stopped ?_ ?_ ?_ <;> simp [hfast, Group.fastDefault]
  · refine .of_armed ?_ ?_ ?_ ?_ <;> simp [hslow, Group.slowDefault]

theorem State.tetherReset_sense (s : State) : s.tetherReset.sense = Sense.default s.clock.now := by
  simp [State.tetherReset]

theorem SenseLaw.linkLossReset {s : State} (h : SenseLaw s) : SenseLaw s.linkLossReset :=
  (h.ready.stopGroup .fast).of_sense_eq rfl

theorem SenseLaw.holdExpires {s : State} (h : SenseLaw s) : SenseLaw s.holdExpires := by
  have hcounted := h.of_sense_eq (State.setLink_sense
    { s.link with counters := { s.link.counters with holdExpiries := s.link.counters.holdExpiries + 1 } } s)
  exact hcounted.linkLossReset.of_sense_eq (State.setLink_sense _ _)

/-! ### Latches (R69) -/

/-- The SHOWING slot's record. -/
def State.showingSlot (s : State) : Option FrameSlot := (s.slotIn .showing).map fun i => s.frames.slots[i]

/-- The lookup that a latch makes after promotion (R74). -/
def State.latchAnswer (s : State) : Option Lookup :=
  s.latchLookup s.showingSlot (s.link.state == .up) (s.clock.source == .crystal)

/-- What a latch makes of a panel after promotion. -/
def State.latchedPanel (e : Eye) (s : State) : LatchedPanel :=
  (s.panel e).latch (s.slotIn .showing) s.showingSlot (s.link.state == .up) (s.clock.source == .crystal) s.latchAnswer s.power.cap

/-- The Scanout Unit after a latch's promotion: both panels judged, the latch counted, the next one set. -/
def State.latchScanout (s : State) : State :=
  { s with scanout := { s.scanout with
    left := (s.latchedPanel .left).panel
    right := (s.latchedPanel .right).panel
    latchCount := s.scanout.latchCount + 1
    latchDue := some (s.clock.now + BitVec.ofNat 32 s.scanout.refresh.period) } }

/-- The state before a latch's triggers: the frame promoted, the panels judged, and the events that this raises. -/
def State.beforeTriggers (s : State) : State :=
  let u := s.promote
  ((u.latchScanout.raiseIf ((u.latchedPanel .left).starvation || (u.latchedPanel .right).starvation) .pictureStarved).raiseIf
    (u.latchAnswer.any Lookup.poseStale) .poseStale).raiseIf
    ((u.latchedPanel .left).clamped || (u.latchedPanel .right).clamped) .shiftClamped

theorem State.frameLatch_eq (s : State) : s.frameLatch = s.beforeTriggers.latchTriggers := rfl

theorem State.beforeTriggers_sense (s : State) : s.beforeTriggers.sense = s.sense := by
  simp only [State.beforeTriggers, State.raiseIf_sense]
  exact s.promote_changes.sense_eq (by decide)

theorem SenseLaw.frameLatch {s : State} (h : SenseLaw s) : SenseLaw s.frameLatch :=
  (h.of_sense_eq s.beforeTriggers_sense).ready.latchTriggers

theorem SenseLaw.panelOn {s : State} (h : SenseLaw s) (e : Eye) : SenseLaw (s.panelOn e) := by
  have hon := h.of_changes (s.setPanel_changes e { (s.panel e).dark with power := .on }) (by decide)
  unfold State.panelOn
  dsimp only
  split
  · exact hon.frameLatch
  · exact hon

end Sys2Proof.Machine
end

section
namespace Sys2Proof.Machine

/-! ### What a verdict leaves the state in -/

/-- The state that a verdict leaves, if it carries the request out, has a property. -/
def Verdict.Keeps (P : State → Prop) : Verdict → Prop
  | .done _ t => P t
  | .deferred t => P t
  | .refused _ _ => True
  | .busy _ => True

theorem Verdict.Keeps.needing {P : State → Prop} {n : Nat} {r : Request} {f : List Byte → Verdict} (h : ∀ b, (f b).Keeps P) :
    (r.needing n f).Keeps P := by
  unfold Request.needing
  split
  · trivial
  · exact h _

theorem Verdict.Keeps.ranged {P : State → Prop} {α : Type} {x : Except Nat α} {f : α → Verdict} (h : ∀ v, x = .ok v → (f v).Keeps P) :
    (Machine.ranged x f).Keeps P := by
  unfold Machine.ranged
  split
  · trivial
  · exact h _ rfl

theorem Verdict.Keeps.unlessConflict {P : State → Prop} {v : Verdict} (h : v.Keeps P) (mask : BitVec 32)
    (constraints : List (Bool × List Nat)) : (Machine.unlessConflict mask constraints v).Keeps P := by
  unfold Machine.unlessConflict
  dsimp only
  split
  · exact h
  · trivial

theorem Verdict.Keeps.writeAct {P : State → Prop} {t : Table} {readOnly : Nat → Nat → Bool}
    {body : Nat → BitVec 32 → List Byte → Verdict} {r : Request} {s : State} (h : ∀ i m b, i < t.entries → (body i m b).Keeps P) :
    (Machine.writeAct t readOnly body r s).Keeps P := by
  unfold Machine.writeAct
  dsimp only
  split
  · trivial
  · split
    · trivial
    · split
      · trivial
      · split
        · trivial
        · split
          · trivial
          next hi => exact h _ _ _ (not_le.1 hi)

/-- A property of the state that the two queues of the Management Unit have no part in is kept by a service whose verdict keeps it. -/
theorem State.serve_keeps {P : State → Prop} (hmgmt : ∀ (u : State) (m : Mgmt), P u → P { u with mgmt := m }) {row : Instr}
    {act : Request → State → Verdict} (hact : ∀ r u, P u → (act r u).Keeps P) {s : State} (h : P s) : P (s.serve row act) := by
  unfold State.serve
  split
  · exact h
  next r rest _ =>
    split
    · dsimp only
      have hv : ((State.judgeRequest act r { s with mgmt := { s.mgmt with requests := rest } })).Keeps P := by
        unfold State.judgeRequest
        split
        · exact hact r _ (hmgmt s _ h)
        · trivial
      unfold State.conclude
      split
      · exact hmgmt _ _ (hmgmt s _ h)
      · exact hmgmt _ _ (hmgmt s _ h)
      next hdone =>
        rw [hdone] at hv
        exact hmgmt _ _ hv
      next hdeferred =>
        rw [hdeferred] at hv
        exact hmgmt _ _ hv
    · exact h

/-! ### The services, by their rows (R144) -/

/-- What the Management Unit does at the service of a row; none for a command that is no request's row. -/
def serviceAct : Instr → Option (Request → State → Verdict)
  | .read => some readAct
  | .readSnapshot => some readSnapshotAct
  | .write => some writeOtherAct
  | .writeStreams => some writeStreamsAct
  | .writeChannels => some writeChannelsAct
  | .writeGroups => some writeGroupsAct
  | .writePanels => some writePanelsAct
  | .writeScanout => some writeScanoutAct
  | .writeAudio => some writeAudioAct
  | .writeReport => some writeReportAct
  | .writeStances => some writeStancesAct
  | .writeStanceLimits => some writeStanceLimitsAct
  | .writeRules => some writeRulesAct
  | .descRead => some descReadAct
  | .eventsClear => some (eventSetAct State.clearEvents)
  | .eventsEnable => some (eventSetAct State.enableEvents)
  | .eventsDisable => some (eventSetAct State.disableEvents)
  | .eventsInject => some eventsInjectAct
  | .gate => some gateAct
  | .lockLive => some lockLiveAct
  | .groupStart => some groupStartAct
  | .groupStop => some groupStopAct
  | .rangeClear => some rangeClearAct
  | .extremesClear => some extremesClearAct
  | .stanceOrder => some stanceOrderAct
  | .countersClear => some countersClearAct
  | _ => none

theorem exec_of_serviceAct {c : Instr} {act : Request → State → Verdict} (h : serviceAct c = some act) (s : State) :
    exec c s = .next (s.serve c act) := by
  cases c <;> cases h <;> rfl

theorem Request.serviceAct_isSome (r : Request) : (serviceAct r.service).isSome := by
  unfold Request.service
  repeat' split
  all_goals rfl

/-- The service of the oldest request is its row's. -/
theorem State.serveOldest_eq {s : State} {r : Request} (h : s.mgmt.requests.head? = some r) {act : Request → State → Verdict}
    (hact : serviceAct r.service = some act) : s.serveOldest = s.serve r.service act := by
  have := (State.exec_service s r h).symm.trans (exec_of_serviceAct hact s)
  exact Host.Outcome.next.inj this

/-- A property that every service keeps is kept by the Management Unit's turn (R144). -/
theorem State.caughtUp_keeps {P : State → Prop}
    (h : ∀ c act, serviceAct c = some act → ∀ s, P s → P (s.serve c act)) {s : State} (hs : P s) : P s.caughtUp := by
  have up : ∀ n u, P u → P (State.serveUpTo n u) := by
    intro n
    induction n with
    | zero => exact fun _ h => h
    | succ n ih =>
      intro u hu
      unfold State.serveUpTo
      split
      next hserv =>
        obtain ⟨r, rest, hr⟩ : ∃ r rest, u.mgmt.requests = r :: rest := by
          cases hq : u.mgmt.requests with
          | nil => simp [State.servable, hq] at hserv
          | cons r rest => exact ⟨r, rest, rfl⟩
        obtain ⟨act, hact⟩ := Option.isSome_iff_exists.1 r.serviceAct_isSome
        rw [State.serveOldest_eq (by rw [hr, List.head?_cons]) hact]
        exact ih _ (h _ _ hact u hu)
      next => exact hu
  exact up _ s hs

/-! ### The services keep the laws of the scan groups -/

theorem SenseLaw.mgmt {s : State} (h : SenseLaw s) (m : Mgmt) : SenseLaw { s with mgmt := m } := h.of_sense_eq rfl

theorem SenseLaw.doneWrite {s : State} (h : SenseLaw s) (t : Table) (i : Nat) : (doneWrite t i s).Keeps SenseLaw := h

/-- A write that leaves the Sense Engine as it was. -/
theorem SenseLaw.doneWrite_of_sense {s u : State} (h : SenseLaw s) {t : Table} {i : Nat} (hu : u.sense = s.sense) :
    (Machine.doneWrite t i u).Keeps SenseLaw := h.of_sense_eq hu

theorem SenseLaw.readAct {s : State} (h : SenseLaw s) (r : Request) : (readAct r s).Keeps SenseLaw := by
  unfold Machine.readAct
  split
  · trivial
  · refine .needing fun b => ?_
    split
    · trivial
    · split
      · trivial
      · exact h

theorem SenseLaw.readSnapshotAct {s : State} (h : SenseLaw s) (r : Request) : (readSnapshotAct r s).Keeps SenseLaw := by
  refine .needing fun b => ?_
  split
  · trivial
  · exact h.takeSnapshot

theorem SenseLaw.writeOtherAct {s : State} (r : Request) : (writeOtherAct r s).Keeps SenseLaw := by
  unfold Machine.writeOtherAct
  split
  · split <;> trivial
  · trivial

theorem State.writeStream_sense (i : Fin 32) (e : StreamEntry) (s : State) : (s.writeStream i e).sense = s.sense := by
  unfold State.writeStream
  dsimp only
  split
  · exact (State.abandonFilling_changes _).sense_eq (by decide)
  · rfl

theorem SenseLaw.writeStreamsAct {s : State} (h : SenseLaw s) (r : Request) : (writeStreamsAct r s).Keeps SenseLaw := by
  refine .writeAct fun i m b _ => ?_
  split
  · exact .ranged fun e _ => .unlessConflict (h.doneWrite_of_sense (State.writeStream_sense _ e s)) _ _
  · trivial

theorem SenseLaw.writeChannelsAct {s : State} (h : SenseLaw s) (r : Request) : (writeChannelsAct r s).Keeps SenseLaw := by
  refine .writeAct fun i m b _ => ?_
  split
  next hi =>
    refine .ranged fun c _ => .unlessConflict ?_ _ _
    split
    · trivial
    next hold =>
      split
      · trivial
      next hnew => exact (h.writeChannel (k := ⟨i, hi⟩) m (Bool.eq_false_iff.2 hold) (Bool.eq_false_iff.2 hnew)).doneWrite _ _
  · trivial

/-- A write of a group's record keeps its state, its pass and its schedule (R9). -/
theorem Group.written_keeps {g : ScanGroup} {mask : BitVec 32} {image : List Byte} {x y : Group} (h : x.written g mask image = .ok y) :
    y.phase = x.phase ∧ y.pass = x.pass ∧ y.timer = x.timer := by
  unfold Group.written at h
  simp only [bind, Except.bind, pure, Except.pure] at h
  repeat' split at h
  all_goals cases h
  exact ⟨rfl, rfl, rfl⟩

theorem SenseLaw.writeGroupsAct {s : State} (h : SenseLaw s) (r : Request) : (writeGroupsAct r s).Keeps SenseLaw := by
  refine .writeAct fun i m b _ => ?_
  dsimp only
  generalize (if i = 0 then ScanGroup.fast else .slow) = g
  refine .ranged fun x hx => ?_
  split
  · trivial
  next hstopped =>
    exact (h.setGroup_of_stopped (not_not.1 hstopped) (Group.written_keeps hx)).doneWrite _ _

theorem State.writePanel_sense (e : Eye) (structural : Bool) (p : Panel) (s : State) :
    (s.writePanel e structural p).sense = s.sense := by
  have hset : (s.setPanel e p).limitBrightness.sense = s.sense :=
    ((State.limitBrightness_changes _).sense_eq (by decide)).trans (State.setPanel_sense e p s)
  unfold State.writePanel
  dsimp only
  split
  · exact ((State.emptyAllSlots_changes _).sense_eq (by decide)).trans hset
  · exact hset

theorem SenseLaw.writePanelsAct {s : State} (h : SenseLaw s) (r : Request) : (writePanelsAct r s).Keeps SenseLaw := by
  refine .writeAct fun i m b _ => .ranged fun p _ => ?_
  split
  · trivial
  · exact h.doneWrite_of_sense (State.writePanel_sense _ _ p s)

theorem SenseLaw.writeScanoutAct {s : State} (h : SenseLaw s) (r : Request) : (writeScanoutAct r s).Keeps SenseLaw := by
  refine .writeAct fun i m b _ => .ranged fun x _ => ?_
  split
  · trivial
  · exact h.doneWrite_of_sense ((State.followDemand_changes _).sense_eq (by decide))

theorem State.writeAudio_sense (a : AudioRecord) (s : State) : (s.writeAudio a).sense = s.sense :=
  ((State.stopCaptureIfEnded_changes _ _).sense_eq (by decide)).trans ((State.startPrimed_changes _).sense_eq (by decide))

theorem SenseLaw.writeAudioAct {s : State} (h : SenseLaw s) (r : Request) : (writeAudioAct r s).Keeps SenseLaw :=
  .writeAct fun _ _ _ _ => .ranged fun a _ => .unlessConflict (h.doneWrite_of_sense (State.writeAudio_sense a s)) _ _

theorem SenseLaw.writeReportAct {s : State} (h : SenseLaw s) (r : Request) : (writeReportAct r s).Keeps SenseLaw :=
  .writeAct fun _ _ _ _ => .ranged fun _ _ => h.doneWrite_of_sense rfl

theorem SenseLaw.writeStancesAct {s : State} (h : SenseLaw s) (r : Request) : (writeStancesAct r s).Keeps SenseLaw := by
  refine .writeAct fun i m b _ => ?_
  split
  · refine .ranged fun x _ => ?_
    split
    · trivial
    · exact (h.writeStance _ _).doneWrite _ _
  · trivial

theorem SenseLaw.writeStanceLimitsAct {s : State} (h : SenseLaw s) (r : Request) : (writeStanceLimitsAct r s).Keeps SenseLaw :=
  .writeAct fun _ _ _ _ => .ranged fun _ _ => h.doneWrite_of_sense rfl

theorem SenseLaw.writeRule {s : State} (h : SenseLaw s) (i : Fin 8) (x : Rule) : SenseLaw (s.writeRule i x) :=
  SenseLaw.evaluate (h.of_sense_eq rfl)

theorem SenseLaw.writeRulesAct {s : State} (h : SenseLaw s) (r : Request) : (writeRulesAct r s).Keeps SenseLaw := by
  refine .writeAct fun i m b _ => ?_
  split
  · exact .ranged fun x _ => (h.writeRule _ x).doneWrite _ _
  · trivial

theorem SenseLaw.descReadAct {s : State} (h : SenseLaw s) (r : Request) : (descReadAct r s).Keeps SenseLaw := by
  refine .needing fun b => ?_
  dsimp only
  split
  · trivial
  · split
    · trivial
    · exact h

theorem SenseLaw.eventSetAct {s : State} (h : SenseLaw s) {f : EventSet → State → State} (hf : ∀ k, (f k s).sense = s.sense)
    (r : Request) : (eventSetAct f r s).Keeps SenseLaw := by
  refine .needing fun b => ?_
  split
  · trivial
  · exact h.of_sense_eq (hf _)

theorem SenseLaw.eventsInjectAct {s : State} (h : SenseLaw s) (r : Request) : (eventsInjectAct r s).Keeps SenseLaw := by
  refine .needing fun b => ?_
  split
  · trivial
  · exact h.eventSetAct (fun _ => rfl) r

theorem SenseLaw.gateAct {s : State} (h : SenseLaw s) (r : Request) : (gateAct r s).Keeps SenseLaw := by
  refine .needing fun b => ?_
  split
  · exact h.of_sense_eq rfl
  · exact h.of_sense_eq rfl
  · trivial

theorem SenseLaw.groupStartAct {s : State} (h : SenseLaw s) (r : Request) : (groupStartAct r s).Keeps SenseLaw := by
  refine .needing fun b => ?_
  split
  · trivial
  · split
    · trivial
    · exact h.startGroup _

theorem SenseLaw.groupStopAct {s : State} (h : SenseLaw s) (r : Request) : (groupStopAct r s).Keeps SenseLaw := by
  refine .needing fun b => ?_
  split
  · trivial
  next g _ =>
    show SenseLaw (if (s.group g).phase = .stopped then s else s.stopGroup g)
    split
    · exact h
    · exact h.ready.stopGroup g

theorem SenseLaw.stanceOrderAct {s : State} (h : SenseLaw s) (r : Request) : (stanceOrderAct r s).Keeps SenseLaw := by
  refine .needing fun b => ?_
  split
  · trivial
  next x _ =>
    have hevaluated : SenseLaw (State.evaluate { s with power := { s.power with ordered := x } }) := SenseLaw.evaluate (h.of_sense_eq rfl)
    split
    · trivial
    · dsimp only
      split
      · exact hevaluated
      · exact hevaluated

/-- Every service keeps the laws of the scan groups. -/
theorem SenseLaw.service {s : State} (h : SenseLaw s) {c : Instr} {act : Request → State → Verdict} (hact : serviceAct c = some act) :
    SenseLaw (s.serve c act) := by
  refine State.serve_keeps (fun u m hu => hu.mgmt m) (fun r u hu => ?_) h
  cases c <;> cases hact
  case read => exact hu.readAct r
  case readSnapshot => exact hu.readSnapshotAct r
  case write => exact SenseLaw.writeOtherAct r
  case writeStreams => exact hu.writeStreamsAct r
  case writeChannels => exact hu.writeChannelsAct r
  case writeGroups => exact hu.writeGroupsAct r
  case writePanels => exact hu.writePanelsAct r
  case writeScanout => exact hu.writeScanoutAct r
  case writeAudio => exact hu.writeAudioAct r
  case writeReport => exact hu.writeReportAct r
  case writeStances => exact hu.writeStancesAct r
  case writeStanceLimits => exact hu.writeStanceLimitsAct r
  case writeRules => exact hu.writeRulesAct r
  case descRead => exact hu.descReadAct r
  case eventsClear => exact hu.eventSetAct (fun _ => rfl) r
  case eventsEnable => exact hu.eventSetAct (fun _ => rfl) r
  case eventsDisable => exact hu.eventSetAct (fun _ => rfl) r
  case eventsInject => exact hu.eventsInjectAct r
  case gate => exact hu.gateAct r
  case lockLive => exact hu.of_sense_eq rfl
  case groupStart => exact hu.groupStartAct r
  case groupStop => exact hu.groupStopAct r
  case rangeClear => exact .needing fun _ => hu.of_changes (State.clearRange_changes _ u) (by decide)
  case extremesClear => exact .needing fun _ => hu.of_changes (State.clearExtremes_changes _ u) (by decide)
  case stanceOrder => exact hu.stanceOrderAct r
  case countersClear => exact hu.of_sense_eq rfl

theorem SenseLaw.caughtUp {s : State} (h : SenseLaw s) : SenseLaw s.caughtUp :=
  State.caughtUp_keeps (fun _ _ hact _ hs => hs.service hact) h

/-! ### The commands keep the laws of the scan groups -/

theorem SenseLaw.timed {s : State} (h : SenseLaw s) {due : Option Time} {f : State → State}
    (hf : ∀ d, due = some d → SenseLaw (s.runTo d) → SenseLaw (f (s.runTo d))) : SenseLaw (s.timed due f) := by
  unfold State.timed
  split
  next d =>
    split
    · exact hf d rfl (h.of_changes (s.runTo_changes d) (by decide))
    · exact h
  next => exact h

theorem SenseLaw.reset {s : State} (h : SenseLaw s) (i : Fin 32) : SenseLaw (State.whenReceiving (fun s =>
    let s := s.arrive i (fun _ => i == 0) fun _ s => (true, s)
    if i = 0 then s.tetherReset else s) s) := by
  unfold State.whenReceiving
  split
  · dsimp only
    split
    · exact senseLaw_of_default (State.tetherReset_sense _)
    · exact h.of_changes (State.arrive_changes (P := []) i _ _ s fun _ u => .refl _ u) (by decide)
  · exact h

theorem SenseLaw.scanTrigger {s : State} (h : SenseLaw s) (g : ScanGroup) :
    SenseLaw (s.timed (s.scanDue g) (State.timerTrigger g)) := by
  refine h.timed fun d hd hrun => ?_
  have hg := (s.runTo_changes d).group_eq (by decide) (by decide) g
  unfold State.scanDue at hd
  split at hd
  next htrigger =>
    refine hrun.ready.timerTrigger (fun hstopped => ?_) (by rw [hg, htrigger])
    obtain ⟨hnone, -⟩ := h.ready.1 g
    simp [State.triggerDue, (hnone (hg ▸ hstopped)).2] at hd
  next => cases hd

theorem State.clockStops_changes (cut : List Byte) (s : State) :
    ChangesOnly (lostParts ++ grantParts ++ [.lane]) s (s.clockStops cut) := by
  unfold State.clockStops
  split
  · dsimp only
    split
    · exact (s.setLink_changes _).mono (by decide)
    · exact (s.discardFramed_changes cut).step (State.setLink_changes _ _) (by decide) (by decide)
  · exact .refl _ s

theorem State.clockReturns_changes (s : State) : ChangesOnly [.link, .lane, .counters] s s.clockReturns := by
  unfold State.clockReturns
  split
  · exact .refl _ s
  · exact s.setLink_changes _

theorem State.clockLossExpires_changes (s : State) : ChangesOnly (lostParts ++ [.clock, .lane]) s s.clockLossExpires := by
  unfold State.clockLossExpires
  split
  · exact .refl _ s
  next n _ =>
    have hstopped := (s.elapse_changes (clockLossTime - n)).step (State.setLink_changes
      { (s.elapse (clockLossTime - n)).link with clockLoss := none } _) (R := lostParts ++ [.clock, .lane]) (by decide) (by decide)
    dsimp only
    split
    · exact hstopped
    · exact hstopped.step (State.setLink_changes _ _) (List.Subset.refl _) (by decide)
    · exact hstopped.step (State.enterLost_changes _) (List.Subset.refl _) (by decide)
    · exact hstopped.step (State.setLink_changes _ _) (List.Subset.refl _) (by decide)

theorem State.emptyIfBarred_sense (s : State) : s.emptyIfBarred.sense = s.sense :=
  s.emptyIfBarred_changes.sense_eq (by decide)

theorem State.crystalLossExpires_sense (s : State) : s.crystalLossExpires.sense = s.sense := by
  unfold State.crystalLossExpires
  split
  · rfl
  · dsimp only
    rw [State.emptyIfBarred_sense]
    rfl

theorem State.crystalStops_sense (s : State) : s.crystalStops.sense = s.sense := by
  unfold State.crystalStops
  split <;> rfl

/-- A cell that arrives at a block outside the Sense Engine keeps the laws. -/
theorem SenseLaw.arrive {P : List Part} {s : State} (h : SenseLaw s) {i : Fin 32} {admits : StreamEntry → Bool}
    {deliver : StreamEntry → State → Bool × State} (hd : ∀ e u, ChangesOnly P u (deliver e u).2)
    (hP : ∀ p ∈ groupParts, p ∉ headerParts ++ [.streams] ++ P) : SenseLaw (s.arrive i admits deliver) :=
  h.of_changes (State.arrive_changes i admits deliver s hd) hP

theorem SenseLaw.whenReceiving {s : State} (h : SenseLaw s) {f : State → State} (hf : SenseLaw (f s)) : SenseLaw (s.whenReceiving f) := by
  unfold State.whenReceiving
  split
  · exact hf
  · exact h

/-- A cell that its length or its operands turn away as a runt, and is else taken. -/
theorem SenseLaw.cell {s : State} (h : SenseLaw s) {fits : State → Bool} {f : State → State} (hf : SenseLaw (f s)) :
    SenseLaw (s.whenReceiving fun s => if fits s then f s else s.discardCell .runt) := by
  refine h.whenReceiving ?_
  split
  · exact hf
  · exact h.of_changes (State.discardCell_changes _ _) (by decide)

/-- Every command keeps the laws of the scan groups. -/
theorem SenseLaw.exec {s t : State} (h : SenseLaw s) {c : Instr} (ht : exec c s = .next t) : SenseLaw t := by
  have hu := h.caughtUp
  have hturn : ∀ {f : State → State}, s.inTurn f = .next t → SenseLaw (f s.caughtUp) → SenseLaw t := fun ht hf =>
    Host.Outcome.next.inj ht ▸ hf
  cases hact : serviceAct c with
  | some act => exact Host.Outcome.next.inj ((exec_of_serviceAct hact s).symm.trans ht) ▸ h.service hact
  | none =>
    cases c
    all_goals simp only [serviceAct, reduceCtorEq] at hact
    case powerOnReset => exact Host.Outcome.next.inj ht ▸ senseLaw_of_default (t := 0) rfl
    case reset i => exact hturn ht (hu.reset i)
    case holdExpiry => exact hturn ht (hu.timed fun _ _ h => h.holdExpires)
    case clockAbsent cut => exact hturn ht (hu.of_changes (State.clockStops_changes cut _) (by decide))
    case clockReturn => exact hturn ht (hu.of_changes (State.clockReturns_changes _) (by decide))
    case clockLossExpiry => exact hturn ht (hu.of_changes (State.clockLossExpires_changes _) (by decide))
    case crystalAbsent => exact hturn ht (hu.of_sense_eq (State.crystalStops_sense _))
    case crystalReturn => exact hturn ht (hu.of_sense_eq rfl)
    case crystalLossExpiry => exact hturn ht (hu.of_sense_eq (State.crystalLossExpires_sense _))
    case cellDiscarded framed => exact hturn ht (hu.of_changes (State.discardFramed_changes framed _) (by decide))
    case fill i => exact hturn ht (hu.whenReceiving (hu.of_changes (State.goodHeader_changes _) (by decide)))
    case picOpen => exact hturn ht (hu.whenReceiving (hu.arrive (fun _ u => u.openFrame_changes _ _ _) (by decide)))
    case picBand => exact hturn ht (hu.cell (hu.arrive (fun _ u => u.acceptBand_changes _ _ _ _) (by decide)))
    case picClose => exact hturn ht (hu.whenReceiving (hu.arrive (fun _ u => u.closeFrame_changes _) (by decide)))
    case bandWriteComplete i => exact hturn ht (hu.of_changes (State.completeWrite_changes i _) (by decide))
    case sound pairs => exact hturn ht (hu.cell (hu.arrive (fun _ u => u.takeSound_changes _ _) (by decide)))
    case ask => exact hturn ht (hu.cell (hu.arrive (fun _ u => u.takeAsk_changes _) (by decide)))
    case scanTrigger g => exact hturn ht (hu.scanTrigger g)
    case burstComplete raw => exact hturn ht (hu.timed fun _ _ h => h.burstDone raw)
    case conversionComplete raw => exact hturn ht (hu.timed fun _ _ h => h.conversionDone raw)
    case ageExpiry => exact hturn ht (hu.timed fun _ _ h => h.of_changes (State.ageHead_changes _) (by decide))
    case frameLatch => exact hturn ht (hu.timed fun _ _ h => h.frameLatch)
    case panelReady e => exact hturn ht (hu.timed fun _ _ h => h.panelOn e)
    case powerDownComplete e => exact hturn ht (hu.timed fun _ _ h => h.of_changes (State.panelDown_changes e _) (by decide))
    case outputTick => exact hturn ht (hu.timed fun _ _ h => h.of_changes (State.outputTick_changes _) (by decide))
    case slipCheck =>
      refine hturn ht ?_
      show SenseLaw (if s.caughtUp.sound.slipDue then s.caughtUp.slipCheck else s.caughtUp)
      split
      · exact hu.of_changes (State.slipCheck_changes _) (by decide)
      · exact hu
    case microphoneSample x => exact hturn ht (hu.timed fun _ _ h => h.of_changes (State.microphone_changes x _) (by decide))
    case stanceCheck => exact hturn ht (hu.timed fun _ _ h => h.stanceCheck)
    case cellBoundary => exact hturn ht (hu.of_changes (State.cellBoundary_changes _) (by decide))


theorem SenseLaw.step {s t : State} (h : SenseLaw s) (ht : step s = .next t) : SenseLaw t := by
  unfold Machine.step at ht
  split at ht
  next c rest _ => exact SenseLaw.exec (s := { s with pending := rest }) (h.of_sense_eq rfl) ht
  next =>
    unfold State.ownStep at ht
    split at ht
    next c _ => exact h.exec ht
    next =>
      obtain rfl := Host.Outcome.next.inj ht.symm
      exact h.of_changes (s.elapse_changes 1) (by decide)

end Sys2Proof.Machine
end

section
open Sys2Proof Sys2Proof.Machine

/-- Settles O10: the laws of the scan groups are kept by every operation of the Sense Engine, and no other block touches what they
speak of. -/
theorem senseLawKept : Obligations.SenseLawKept := by
  intro s t hs hstep
  obtain ⟨-, -, -, -, -, -, -, -, -, -, hsense⟩ := hs
  exact hsense.step hstep
end

section
namespace Sys2Proof.Machine

/-! ### Events taken where every request that can be served has been (R144, log 2) -/

theorem State.servable_of_served {s : State} (h : s.served) : s.servable = false := by
  rcases h with h | h
  · simp [State.servable, h]
  · have : ¬ s.mgmt.fill < queueDepth := not_lt.2 h
    simp [State.servable, this]

/-- A timed event of a state in which nothing can be served: time runs to its due time, and it acts. -/
theorem State.inTurn_timed {s : State} (hserved : s.served) (hruns : s.timeRuns = true) {due : State → Option Time} {f : State → State}
    {d : Time} (hdue : due s = some d) : s.inTurn (fun s => s.timed (due s) f) = .next (f (s.runTo d)) := by
  rw [State.inTurn_of_not_servable _ s (State.servable_of_served hserved), hdue]
  exact congrArg _ (if_pos hruns)

theorem State.runTo_group (d : Time) (g : ScanGroup) (s : State) : (s.runTo d).group g = s.group g :=
  (s.runTo_changes d).group_eq (by decide) (by decide) g

theorem State.runTo_channels (d : Time) (s : State) : (s.runTo d).sense.channels = s.sense.channels := by
  rw [State.runTo_sense]

/-! ### Completions -/

/-- A completed burst advances the pass that it serves, and the arbiters then act (R3, R13 to R15). -/
theorem State.burstDone_advances {s : State} {v : InFlight} {p : Pass} {ks : List (Fin 16)} (raw : SixAxes)
    (hv : s.sense.port = some v) (hpass : (s.group v.owner).pass = some p) (hnodup : p.todo.Nodup)
    (hks : ks = s.servedAtOnce (some ⟨raw, v.start⟩) (s.group v.owner).mode p.todo) :
    ∃ n, s.burstDone raw = n.arbitrate ∧ PassAdvances v.owner { p with burst := some ⟨raw, v.start⟩ }
      (s.samplesAtOnce (some ⟨raw, v.start⟩) ks) (p.todo.drop ks.length) s.freePort n := by
  refine ⟨_, State.burstDone_eq raw hv hpass, ?_⟩
  rw [← State.samplesAtOnce_congr s.freePort_channels]
  refine State.walk_advances hnodup v.owner { p with burst := some ⟨raw, v.start⟩ } ?_
  rw [hks, State.freePort_group, State.servedAtOnce_congr s.freePort_channels]

/-- A completed conversion advances the pass that it serves, and the arbiters then act (R4, R13 to R15). -/
theorem State.conversionDone_advances {s : State} {v : InFlight} {p : Pass} {k : Fin 16} {tail ks : List (Fin 16)} (raw : BitVec 12)
    (hv : s.sense.converter = some v) (hpass : (s.group v.owner).pass = some p) (hnodup : p.todo.Nodup) (htodo : p.todo = k :: tail)
    (hks : ks = if (s.group v.owner).mode = .step then [] else s.servedAtOnce p.burst (s.group v.owner).mode tail) :
    ∃ n, s.conversionDone raw = n.arbitrate ∧ PassAdvances v.owner p
      (⟨k, s.sense.channels[k].correct (conversionValue s.sense.channels[k].source raw), v.start⟩ :: s.samplesAtOnce p.burst ks)
      (tail.drop ks.length) s.freeConverter n := by
  refine ⟨_, State.conversionDone_eq raw hv hpass htodo hks, State.takeSamples_standAt_advances ?_ _ _ _ _⟩
  rw [htodo] at hnodup
  obtain ⟨hfresh, htail⟩ := List.nodup_cons.1 hnodup
  have hprefix : ks <+: tail := by
    rw [hks]
    split
    · exact List.nil_prefix
    · exact s.servedAtOnce_prefix _ _ _
  rw [List.map_cons]
  rcases p.burst with _ | b
  · simp [State.samplesAtOnce]
  · have hslots : (ks.map (s.burstSample b)).map (·.slot) = ks := by simp [Function.comp_def, State.burstSample]
    simp only [State.samplesAtOnce, hslots]
    exact List.nodup_cons.2 ⟨fun h => hfresh (hprefix.subset h), htail.sublist hprefix.sublist⟩

end Sys2Proof.Machine

open Sys2Proof Sys2Proof.Machine

/-- Settles O53: the trigger becomes the schedule's last, reaches its group, and the arbiters act. -/
theorem scanTriggerStartsPass : Obligations.ScanTriggerStartsPass := by
  intro g s hserved hruns htrigger d hdue u hu
  have hscan : s.scanDue g = some d := by rw [State.scanDue, if_pos htrigger, hdue]
  have hgroup : ∀ h, u.group h = s.group h := fun h => hu ▸ s.runTo_group d h
  refine ⟨_, u.setGroup g { u.group g with timer := some (.after u.clock.now) }, _,
    hu ▸ State.inTurn_timed hserved hruns hscan, ?_, fun h hne => ?_, u.setGroup_changes g _, State.trigger_reaches g _,
    State.arbitrate_acts _, State.arbitrate_changes _⟩
  · rw [State.group_setGroup, hgroup]
  · rw [State.group_setGroup_of_ne hne, hgroup]

/-- Settles O54: the walk of the burst's pass, from the state with the port free. -/
theorem burstCompletesMotionSlots : Obligations.BurstCompletesMotionSlots := by
  intro raw s hserved hruns v hv p hpass hnodup u hu held hheld ks hks
  subst hheld
  have hdue : s.burstDue = some (v.start + 24) := by rw [State.burstDue, hv, Option.map_some]
  have hc : u.sense.channels = s.sense.channels := hu ▸ s.runTo_channels _
  have hg : u.group v.owner = s.group v.owner := hu ▸ s.runTo_group _ _
  obtain ⟨n, hdone, hadvances⟩ := State.burstDone_advances (s := u) (ks := ks) raw (by rw [hu, State.runTo_sense, hv]) (hg ▸ hpass) hnodup
    (by rw [hks, hg, State.servedAtOnce_congr hc])
  rw [State.samplesAtOnce_congr hc] at hadvances
  refine ⟨n.arbitrate, u.freePort, n, ?_, rfl, u.freePort_changes, hadvances, n.arbitrate_acts, n.arbitrate_changes⟩
  rw [← hdone, hu]
  exact State.inTurn_timed hserved hruns hdue

/-- Settles O55: the slot the pass stands at, and with it what its burst serves, from the state with the converter free. -/
theorem conversionCompletesSlot : Obligations.ConversionCompletesSlot := by
  intro raw s hserved hruns v hv p hpass hnodup k tail htodo u hu value hvalue ks hks
  have hdue : s.conversionDue = some (v.start + 3) := by rw [State.conversionDue, hv, Option.map_some]
  have hc : u.sense.channels = s.sense.channels := hu ▸ s.runTo_channels _
  have hg : u.group v.owner = s.group v.owner := hu ▸ s.runTo_group _ _
  obtain ⟨n, hdone, hadvances⟩ := State.conversionDone_advances (s := u) (ks := ks) raw (by rw [hu, State.runTo_sense, hv]) (hg ▸ hpass) hnodup htodo
    (by rw [hks, hg, State.servedAtOnce_congr hc])
  have hvalue' : u.sense.channels[k].correct (conversionValue u.sense.channels[k].source raw) = value := by
    rw [hc, hvalue]
    rfl
  rw [State.samplesAtOnce_congr hc, hvalue'] at hadvances
  refine ⟨n.arbitrate, u.freeConverter, n, ?_, rfl, u.freeConverter_changes, hadvances, n.arbitrate_acts, n.arbitrate_changes⟩
  rw [← hdone, hu]
  exact State.inTurn_timed hserved hruns hdue
end

section
namespace Sys2Proof.Machine

/-! ### What a latch makes of a panel (Table 4-4, R70, R75 to R77) -/

theorem clampShift_bne (margin : Nat) (x : Int) : (clampShift margin x != x) = decide (margin < x.natAbs) := by
  have : clampShift margin x ≠ x ↔ margin < x.natAbs := by
    simp only [clampShift, saturate]
    omega
  rw [Bool.eq_iff_iff, bne_iff_ne, decide_eq_true_iff, this]

theorem Panel.blackAtLatch_eq_false_iff {p : Panel} {f : FrameSlot} {linkUp crystal : Bool} :
    p.blackAtLatch (some f) linkUp crystal = false ↔ f.repeats ≤ p.repeatLimit ∧ linkUp = true ∧ crystal = true := by
  simp [Panel.blackAtLatch, and_assoc]

theorem Panel.latch_of_not_on {p : Panel} (h : p.power ≠ .on) (slot : Option (Fin 3)) (showing : Option FrameSlot) (linkUp crystal : Bool)
    (answer : Option Lookup) (cap : Nat) : p.latch slot showing linkUp crystal answer cap = ⟨p.dark, false, false⟩ := if_pos h

theorem Panel.latch_of_nothing_showing {p : Panel} (h : p.power = .on) (linkUp crystal : Bool) (answer : Option Lookup) (cap : Nat) :
    p.latch none none linkUp crystal answer cap = ⟨p.dark, false, false⟩ := by
  refine (if_neg (not_not.2 h)).trans ?_
  simp [Panel.starvedAtLatch]

theorem Panel.latch_of_black {p : Panel} (h : p.power = .on) (i : Fin 3) {f : FrameSlot} {linkUp crystal : Bool}
    (hblack : p.blackAtLatch (some f) linkUp crystal = true) (answer : Option Lookup) (cap : Nat) :
    p.latch (some i) (some f) linkUp crystal answer cap =
      ⟨{ p.dark with starved := decide (p.repeatLimit < f.repeats) }, decide (p.repeatLimit < f.repeats) && !p.starved, false⟩ :=
  (if_neg (not_not.2 h)).trans (if_pos hblack)

/-- A panel that shows the frame: the clamped shift, the window placed by it, and the lesser of setpoint and cap (R73, R76 to R78). -/
theorem Panel.latch_of_shown {p : Panel} (h : p.power = .on) (i : Fin 3) {f : FrameSlot} {linkUp crystal : Bool}
    (hblack : p.blackAtLatch (some f) linkUp crystal = false) (answer : Option Lookup) (cap : Nat) {shift : Int × Int}
    (hshift : shift = p.rawShift f.noShift answer) :
    p.latch (some i) (some f) linkUp crystal answer cap =
      ⟨{ p with
          dx := clampShift p.marginH shift.1
          dy := clampShift p.marginV shift.2
          shown := min p.setpoint cap
          starved := false
          window := some ⟨i, p.marginH - clampShift p.marginH shift.1, p.marginV - clampShift p.marginV shift.2⟩ },
        false, decide (p.marginH < shift.1.natAbs ∨ p.marginV < shift.2.natAbs)⟩ := by
  have hstarved : decide (p.repeatLimit < f.repeats) = false := by
    obtain ⟨hrepeats, -, -⟩ := Panel.blackAtLatch_eq_false_iff.1 hblack
    exact decide_eq_false (not_lt.2 hrepeats)
  have hclamped : (clampShift p.marginH shift.1 != shift.1 || clampShift p.marginV shift.2 != shift.2) =
      decide (p.marginH < shift.1.natAbs ∨ p.marginV < shift.2.natAbs) := by
    rw [clampShift_bne, clampShift_bne, Bool.decide_or]
  refine (if_neg (not_not.2 h)).trans ((if_neg (Bool.eq_false_iff.1 hblack)).trans ?_)
  rw [← hclamped, hshift]
  simp only [Panel.starvedAtLatch, hstarved, Bool.false_and]
  rfl

/-! ### A latch's lookup (R74) -/

theorem State.latchLookup_none (linkUp crystal : Bool) (s : State) : s.latchLookup none linkUp crystal = none := rfl

/-- A lookup is made for a frame with a shift, for a panel that wants it. -/
theorem State.latchLookup_some (f : FrameSlot) (linkUp crystal : Bool) (s : State) : s.latchLookup (some f) linkUp crystal =
    if !f.noShift && [Eye.left, Eye.right].any fun e => (s.panel e).wantsLookup (some f) linkUp crystal
    then f.renderTime.map (lookupPose s.pose.history) else none := by
  simp [State.latchLookup, State.panel]

/-- The shift that a panel wants is the one that its latch takes from the lookup. -/
theorem State.wantedShift_eq_rawShift {s : State} {e : Eye} {f : FrameSlot} {linkUp crystal : Bool} (hon : (s.panel e).power = .on)
    (hblack : (s.panel e).blackAtLatch (some f) linkUp crystal = false) :
    (s.panel e).wantedShift f s.pose.history = (s.panel e).rawShift f.noShift (s.latchLookup (some f) linkUp crystal) := by
  unfold Panel.wantedShift Panel.rawShift
  by_cases hnone : (f.noShift || !(s.panel e).shiftEnable) = true
  · rw [if_pos hnone, if_pos hnone]
  · rw [if_neg hnone, if_neg hnone]
    obtain ⟨hno, henable⟩ : f.noShift = false ∧ (s.panel e).shiftEnable = true := by simpa using hnone
    have hwants : (!f.noShift && [Eye.left, Eye.right].any fun e => (s.panel e).wantsLookup (some f) linkUp crystal) = true := by
      have : (s.panel e).wantsLookup (some f) linkUp crystal = true := by simp [Panel.wantsLookup, hon, henable, hblack]
      rw [hno]
      exact List.any_eq_true.2 ⟨e, by cases e <;> simp, this⟩
    rw [State.latchLookup_some, if_pos hwants]
    cases f.renderTime <;> rfl

/-! ### Promotion (R53, R54) -/

theorem State.promote_promoted (s : State) : Promoted s s.promote := by
  refine ⟨fun r hr => ?_, fun o hr ho => ?_, fun hr ho => ?_⟩
  · cases hold : s.slotIn .showing <;> simp only [State.promote, hr, hold] <;> rfl
  · simp only [State.promote, hr, ho]
    rfl
  · simp only [State.promote, hr, ho]

/-! ### The latch before its triggers -/

theorem State.latchScanout_changes (s : State) :
    ChangesOnly [.leftPanel, .rightPanel, .latchCount, .latchDue] s s.latchScanout := by
  intro p hp
  cases p <;> simp_all [Part.same, State.latchScanout]

/-- What a latch may change before its triggers. -/
def latchParts : List Part := [.slots, .leftPanel, .rightPanel, .latchCount, .latchDue, .raised, .notice]

theorem State.beforeTriggers_changes (s : State) : ChangesOnly latchParts s s.beforeTriggers := by
  have hjudged := s.promote_changes.step s.promote.latchScanout_changes (R := latchParts) (by decide) (by decide)
  have raised : ∀ {u : State} (b : Bool) (k : EventKind), ChangesOnly latchParts s u → ChangesOnly latchParts s (u.raiseIf b k) :=
    fun b k h => h.step (State.raiseIf_changes b k _) (by decide) (by decide)
  exact raised _ _ (raised _ _ (raised _ _ hjudged))

theorem State.beforeTriggers_frames (s : State) : s.beforeTriggers.frames = s.promote.frames := by
  simp only [State.beforeTriggers, State.raiseIf_frames]
  rfl

theorem State.beforeTriggers_scanout (s : State) : s.beforeTriggers.scanout = s.promote.latchScanout.scanout := by
  simp only [State.beforeTriggers, State.raiseIf_scanout]

theorem State.promote_panel (e : Eye) (s : State) : s.promote.panel e = s.panel e := by
  have hleft : s.promote.scanout.left = s.scanout.left := s.promote_changes .leftPanel (by decide)
  have hright : s.promote.scanout.right = s.scanout.right := s.promote_changes .rightPanel (by decide)
  cases e <;> assumption

/-! ### What a latch raises (R70, R74, R77) -/

theorem State.showsFrame_eq (e : Eye) (f : FrameSlot) (s : State) : s.showsFrame e f =
    ((s.panel e).power == .on && !(s.panel e).blackAtLatch (some f) (s.link.state == .up) (s.clock.source == .crystal)) := by
  rw [Bool.eq_iff_iff]
  simp [State.showsFrame, Panel.blackAtLatch_eq_false_iff, and_assoc]

theorem State.showingSlot_of_slotIn {s : State} {i : Fin 3} (h : s.slotIn .showing = some i) :
    s.showingSlot = some s.frames.slots[i] := by
  rw [State.showingSlot, h]
  rfl

theorem State.showingSlot_of_none {s : State} (h : s.slotIn .showing = none) : s.showingSlot = none := by
  rw [State.showingSlot, h]
  rfl

section
variable {s : State} {i : Fin 3} (h : s.slotIn .showing = some i)
include h

/-- A panel that is ON and not black shows the frame. -/
theorem State.latchedPanel_of_shown {e : Eye} (hon : (s.panel e).power = .on) (hshows : s.showsFrame e s.frames.slots[i] = true)
    {shift : Int × Int} (hshift : shift = (s.panel e).wantedShift s.frames.slots[i] s.pose.history) :
    s.latchedPanel e =
      ⟨{ s.panel e with
          dx := clampShift (s.panel e).marginH shift.1
          dy := clampShift (s.panel e).marginV shift.2
          shown := min (s.panel e).setpoint s.power.cap
          starved := false
          window := some ⟨i, (s.panel e).marginH - clampShift (s.panel e).marginH shift.1,
            (s.panel e).marginV - clampShift (s.panel e).marginV shift.2⟩ },
        false, decide ((s.panel e).marginH < shift.1.natAbs ∨ (s.panel e).marginV < shift.2.natAbs)⟩ := by
  have hblack : (s.panel e).blackAtLatch (some s.frames.slots[i]) (s.link.state == .up) (s.clock.source == .crystal) = false := by
    simpa [State.showsFrame_eq, hon] using hshows
  rw [State.latchedPanel, State.latchAnswer, State.showingSlot_of_slotIn h, h]
  exact Panel.latch_of_shown hon i hblack _ _ (hshift.trans (State.wantedShift_eq_rawShift hon hblack))

/-- A panel that is ON and does not show the frame is black. -/
theorem State.latchedPanel_of_not_shown {e : Eye} (hon : (s.panel e).power = .on) (hshows : s.showsFrame e s.frames.slots[i] = false) :
    s.latchedPanel e =
      ⟨{ (s.panel e).dark with starved := decide ((s.panel e).repeatLimit < s.frames.slots[i].repeats) },
        decide ((s.panel e).repeatLimit < s.frames.slots[i].repeats) && !(s.panel e).starved, false⟩ := by
  have hblack : (s.panel e).blackAtLatch (some s.frames.slots[i]) (s.link.state == .up) (s.clock.source == .crystal) = true := by
    simpa [State.showsFrame_eq, hon] using hshows
  rw [State.latchedPanel, State.latchAnswer, State.showingSlot_of_slotIn h, h]
  exact Panel.latch_of_black hon i hblack _ _

theorem State.latchedPanel_starvation (e : Eye) : (s.latchedPanel e).starvation =
    ((s.panel e).power == .on && decide ((s.panel e).repeatLimit < s.frames.slots[i].repeats) && !(s.panel e).starved) := by
  by_cases hon : (s.panel e).power = .on
  · cases hshows : s.showsFrame e s.frames.slots[i] with
    | true =>
      obtain ⟨⟨⟨-, hrepeats⟩, -⟩, -⟩ : ((_ ∧ (s.frames.slots[i].repeats ≤ (s.panel e).repeatLimit)) ∧ _) ∧ _ := by
        simpa [State.showsFrame] using hshows
      rw [State.latchedPanel_of_shown h hon hshows rfl, decide_eq_false (not_lt.2 hrepeats)]
      simp
    | false =>
      rw [State.latchedPanel_of_not_shown h hon hshows, hon]
      rfl
  · rw [State.latchedPanel, Panel.latch_of_not_on hon, beq_eq_false_iff_ne.2 hon]
    rfl

theorem State.latchedPanel_clamped (e : Eye) : (s.latchedPanel e).clamped = (s.showsFrame e s.frames.slots[i] &&
    decide ((s.panel e).marginH < ((s.panel e).wantedShift s.frames.slots[i] s.pose.history).1.natAbs ∨
      (s.panel e).marginV < ((s.panel e).wantedShift s.frames.slots[i] s.pose.history).2.natAbs)) := by
  by_cases hon : (s.panel e).power = .on
  · cases hshows : s.showsFrame e s.frames.slots[i] with
    | true => rw [State.latchedPanel_of_shown h hon hshows rfl, Bool.true_and]
    | false => rw [State.latchedPanel_of_not_shown h hon hshows, Bool.false_and]
  · rw [State.latchedPanel, Panel.latch_of_not_on hon, State.showsFrame_eq, beq_eq_false_iff_ne.2 hon]
    rfl

theorem State.latchAnswer_poseStale : s.latchAnswer.any Lookup.poseStale =
    (([Eye.left, Eye.right].any fun e => s.showsFrame e s.frames.slots[i] && (s.panel e).shiftEnable && !s.frames.slots[i].noShift) &&
      s.frames.slots[i].renderTime.any fun time => (lookupPose s.pose.history time).poseStale) := by
  have hwants : ∀ e, (s.panel e).wantsLookup (some s.frames.slots[i]) (s.link.state == .up) (s.clock.source == .crystal) =
      (s.showsFrame e s.frames.slots[i] && (s.panel e).shiftEnable) := fun e => by
    rw [State.showsFrame_eq, Panel.wantsLookup]
    exact Bool.and_right_comm _ _ _
  rw [State.latchAnswer, State.showingSlot_of_slotIn h, State.latchLookup_some]
  simp only [hwants]
  cases s.frames.slots[i].noShift <;> cases hany : [Eye.left, Eye.right].any fun e => s.showsFrame e s.frames.slots[i] &&
    (s.panel e).shiftEnable <;> cases s.frames.slots[i].renderTime <;> simp_all

end

/-- Three kinds, each raised if its cause has occurred. -/
theorem EventsRaised.raiseIf_three {s u : State} (hu : u.events = s.events) (a b c : Bool) (x y z : EventKind) :
    EventsRaised (x.markIf a ||| y.markIf b ||| z.markIf c) s (((u.raiseIf a x).raiseIf b y).raiseIf c z) :=
  ((EventsRaised.raiseIf_of_events hu a x).trans (EventsRaised.raiseIf b y _) (by simp [hu]) (by simp [hu]) (by simp) (by simp)).trans
    (EventsRaised.raiseIf c z _) (by simp [hu]) (by simp [hu]) (by simp) (by simp)

theorem State.promote_events (s : State) : s.promote.events = s.events := by
  unfold State.promote
  cases s.slotIn .ready <;> cases s.slotIn .showing <;> rfl

theorem State.promote_latchScanout_events (s : State) : s.promote.latchScanout.events = s.events := s.promote_events

theorem State.latchMarks_eq {s : State} {i : Fin 3} (h : s.slotIn .showing = some i) : s.latchMarks s.frames.slots[i] =
    EventKind.pictureStarved.markIf ((s.latchedPanel .left).starvation || (s.latchedPanel .right).starvation) |||
    EventKind.poseStale.markIf (s.latchAnswer.any Lookup.poseStale) |||
    EventKind.shiftClamped.markIf ((s.latchedPanel .left).clamped || (s.latchedPanel .right).clamped) := by
  rw [State.latchAnswer_poseStale h, State.latchedPanel_starvation h, State.latchedPanel_starvation h, State.latchedPanel_clamped h,
    State.latchedPanel_clamped h]
  simp only [State.latchMarks, List.any_cons, List.any_nil, Bool.or_false]

theorem State.beforeTriggers_raised_of_showing {s : State} {i : Fin 3} (h : s.promote.slotIn .showing = some i) :
    EventsRaised (s.promote.latchMarks s.promote.frames.slots[i]) s s.beforeTriggers := by
  rw [State.latchMarks_eq h]
  exact EventsRaised.raiseIf_three s.promote_latchScanout_events _ _ _ _ _ _

theorem State.latchedPanel_of_nothing_showing {s : State} (h : s.slotIn .showing = none) (e : Eye) :
    s.latchedPanel e = ⟨(s.panel e).dark, false, false⟩ := by
  by_cases hon : (s.panel e).power = .on
  · rw [State.latchedPanel, State.showingSlot_of_none h, h]
    exact Panel.latch_of_nothing_showing hon _ _ _ _
  · exact Panel.latch_of_not_on hon _ _ _ _ _ _

theorem State.latchedPanel_of_not_on {s : State} {e : Eye} (h : (s.panel e).power ≠ .on) :
    s.latchedPanel e = ⟨(s.panel e).dark, false, false⟩ := Panel.latch_of_not_on h _ _ _ _ _ _

theorem State.beforeTriggers_raised_of_nothing_showing {s : State} (h : s.promote.slotIn .showing = none) :
    EventsRaised 0 s s.beforeTriggers := by
  have hanswer : s.promote.latchAnswer = none := by rw [State.latchAnswer, State.showingSlot_of_none h, State.latchLookup_none]
  have hraised : s.beforeTriggers = s.promote.latchScanout := by
    simp only [State.beforeTriggers, hanswer, State.latchedPanel_of_nothing_showing h]
    rfl
  rw [hraised]
  exact (EventsRaised.refl s).congr rfl s.promote_latchScanout_events

/-- The kinds of a latch rest on the panels, the link, the clock source and the pose alone. -/
theorem State.latchMarks_congr {s t : State} (hpanel : ∀ e, t.panel e = s.panel e) (hlink : t.link.state = s.link.state)
    (hsource : t.clock.source = s.clock.source) (hpose : t.pose = s.pose) (f : FrameSlot) : t.latchMarks f = s.latchMarks f := by
  simp only [State.latchMarks, State.showsFrame, hpanel, hlink, hsource, hpose]

/-! ### A latch's triggers (R12, R15) -/

theorem State.walk_group_of_ne {g h : ScanGroup} (hne : h ≠ g) (p : Pass) (todo : List (Fin 16)) (s : State) :
    (s.walk g p todo).group h = s.group h := by
  rw [State.walk_eq, State.standAt_group_of_ne hne, State.takeSamples_group]

theorem State.trigger_group_of_ne {g h : ScanGroup} (hne : h ≠ g) (s : State) : (s.trigger g).group h = s.group h := by
  have hraise : (s.raise .scanOverrun).group h = s.group h := (s.raise_changes _).group_eq (by decide) (by decide) h
  unfold State.trigger
  dsimp only
  cases (s.group g).phase with
  | stopped => rfl
  | passing => exact hraise
  | held => exact hraise
  | armed =>
    cases (s.group g).pass with
    | some p => exact s.walk_group_of_ne hne p p.todo
    | none =>
      dsimp only
      split
      · exact State.group_setGroup_of_ne hne _ s
      · exact State.walk_group_of_ne hne _ _ s

/-- A latch's trigger for one group: taken if the group's trigger is LATCH. -/
def State.latchTrigger (g : ScanGroup) (s : State) : State := if (s.group g).trigger = .latch then s.trigger g else s

theorem State.latchTriggers_eq (s : State) : s.latchTriggers = ((s.latchTrigger .fast).latchTrigger .slow).arbitrate := rfl

theorem State.latchTrigger_group_of_ne {g h : ScanGroup} (hne : h ≠ g) (s : State) : (s.latchTrigger g).group h = s.group h := by
  unfold State.latchTrigger
  split
  · exact s.trigger_group_of_ne hne
  · rfl

theorem State.latchTrigger_reaches {g : ScanGroup} {s : State} (h : (s.group g).trigger = .latch) :
    TriggerReaches g s (s.latchTrigger g) := by
  rw [State.latchTrigger, if_pos h]
  exact s.trigger_reaches g

theorem State.latchTrigger_of_ne {g : ScanGroup} {s : State} (h : (s.group g).trigger ≠ .latch) : s.latchTrigger g = s := if_neg h

theorem State.latchTriggers_reaches (s : State) : LatchReaches s s.latchTriggers := by
  have hslow : (s.latchTrigger .fast).group .slow = s.group .slow := s.latchTrigger_group_of_ne (by decide)
  rw [State.latchTriggers_eq]
  refine ⟨s.latchTrigger .fast, (s.latchTrigger .fast).latchTrigger .slow, State.latchTrigger_reaches, State.latchTrigger_of_ne,
    fun h => ?_, fun h => ?_, State.arbitrate_acts _, State.arbitrate_changes _⟩
  · exact State.latchTrigger_reaches (hslow ▸ h)
  · exact State.latchTrigger_of_ne (hslow ▸ h)

/-- Where no group's trigger is LATCH, a latch triggers nothing, and the arbiters find nothing to grant. -/
theorem State.latchTriggers_of_no_latch {s : State} (h : ∀ g, (s.group g).trigger ≠ .latch) (hlaw : SenseLaw s) :
    s.latchTriggers = s := by
  obtain ⟨-, hserved⟩ := senseLaw_iff.1 hlaw
  have : s.latchTriggers = s.arbitrate := by simp only [State.latchTriggers, if_neg (h _)]
  rw [this, State.arbitrate_of_all_served hserved]

/-! ### What a latch's triggers leave -/

/-- A change that names no part of the frame store leaves it as it was. -/
theorem ChangesOnly.frames_eq {P : List Part} {s t : State} (h : ChangesOnly P s t)
    (hP : ∀ p ∈ [Part.slots, .writes, .superseded, .dram], p ∉ P) : t.frames = s.frames := by
  have same := fun p hp => h p (hP p hp)
  simp only [List.mem_cons, List.not_mem_nil, or_false, forall_eq_or_imp, forall_eq, Part.same] at same
  obtain ⟨slots, writes, superseded, dram⟩ := same
  generalize t.frames = a at *
  generalize s.frames = b at *
  cases a
  cases b
  simp_all

/-- A change that names no part of the link leaves it as it was. -/
theorem ChangesOnly.link_eq {P : List Part} {s t : State} (h : ChangesOnly P s t)
    (hP : ∀ p ∈ [Part.link, .lane, .counters], p ∉ P) : t.link = s.link := by
  have same := fun p hp => h p (hP p hp)
  simp only [List.mem_cons, List.not_mem_nil, or_false, forall_eq_or_imp, forall_eq, Part.same] at same
  obtain ⟨⟨state, goodRun, badRun, hold⟩, ⟨clockPresent, clockLoss⟩, counters⟩ := same
  generalize t.link = a at *
  generalize s.link = b at *
  cases a
  cases b
  simp_all

/-- A change that names no part of the Scanout Unit leaves it as it was. -/
theorem ChangesOnly.scanout_eq {P : List Part} {s t : State} (h : ChangesOnly P s t)
    (hP : ∀ p ∈ [Part.leftPanel, .rightPanel, .scanoutEnable, .refresh, .latchCount, .latchDue], p ∉ P) : t.scanout = s.scanout := by
  have same := fun p hp => h p (hP p hp)
  simp only [List.mem_cons, List.not_mem_nil, or_false, forall_eq_or_imp, forall_eq, Part.same] at same
  obtain ⟨left, right, enable, refresh, count, due⟩ := same
  generalize t.scanout = a at *
  generalize s.scanout = b at *
  cases a
  cases b
  simp_all

theorem State.frameLatch_frames (s : State) : s.frameLatch.frames = s.promote.frames := by
  rw [State.frameLatch_eq, s.beforeTriggers.latchTriggers_changes.frames_eq (by decide), State.beforeTriggers_frames]

theorem State.frameLatch_scanout (s : State) : s.frameLatch.scanout = s.promote.latchScanout.scanout := by
  rw [State.frameLatch_eq, s.beforeTriggers.latchTriggers_changes.scanout_eq (by decide), State.beforeTriggers_scanout]

theorem State.frameLatch_panel (e : Eye) (s : State) : s.frameLatch.panel e = (s.promote.latchedPanel e).panel := by
  cases e <;> simp only [State.panel, State.frameLatch_scanout] <;> rfl

theorem State.frameLatch_slotIn (ph : SlotPhase) (s : State) : s.frameLatch.slotIn ph = s.promote.slotIn ph := by
  rw [State.slotIn, State.frameLatch_frames, State.slotIn]

/-- A latch found in time (log 2): time runs on to it, and what it makes of the panels, the slots and the events is read off the state that
it was found in. -/
structure LatchFound (s u : State) : Prop where
  panel : ∀ e, u.promote.panel e = s.panel e
  linkState : u.promote.link.state = s.link.state
  source : u.promote.clock.source = s.clock.source
  pose : u.promote.pose = s.pose
  cap : u.promote.power.cap = s.power.cap
  scanout : u.promote.scanout = s.scanout

theorem State.runTo_latchFound (d : Time) (s : State) : LatchFound s (s.runTo d) where
  panel e := by
    rw [State.promote_panel]
    cases e <;> simp only [State.panel, State.runTo_scanout]
  linkState := by
    obtain ⟨h, -⟩ : Part.link.same (s.runTo d) (s.runTo d).promote := (s.runTo d).promote_changes _ (by decide)
    rw [h, State.runTo_link_state]
  source := by rw [(s.runTo d).promote_changes.clock_eq (by decide), State.runTo_clock_source]
  pose := by rw [(s.runTo d).promote_changes.pose_eq (by decide), State.runTo_pose]
  cap := by
    obtain ⟨h, -⟩ : Part.limits.same (s.runTo d) (s.runTo d).promote := (s.runTo d).promote_changes _ (by decide)
    rw [h, State.runTo_power]
  scanout := by rw [(s.runTo d).promote_changes.scanout_eq (by decide), State.runTo_scanout]

namespace LatchFound
variable {s u : State}

theorem showsFrame (h : LatchFound s u) (e : Eye) (f : FrameSlot) : u.promote.showsFrame e f = s.showsFrame e f := by
  simp only [State.showsFrame, h.panel, h.linkState, h.source]

theorem latchMarks (h : LatchFound s u) (f : FrameSlot) : u.promote.latchMarks f = s.latchMarks f :=
  State.latchMarks_congr h.panel h.linkState h.source h.pose f

theorem panel_of_not_on (h : LatchFound s u) {e : Eye} (hon : (s.panel e).power ≠ .on) : u.frameLatch.panel e = (s.panel e).dark := by
  rw [State.frameLatch_panel, State.latchedPanel_of_not_on (h.panel e ▸ hon), h.panel]

theorem panel_of_nothing_showing (h : LatchFound s u) (hnone : u.frameLatch.slotIn .showing = none) (e : Eye) :
    u.frameLatch.panel e = (s.panel e).dark := by
  rw [State.frameLatch_slotIn] at hnone
  rw [State.frameLatch_panel, State.latchedPanel_of_nothing_showing hnone, h.panel]

section
variable (h : LatchFound s u) {e : Eye} {i : Fin 3} (hon : (s.panel e).power = .on) (hi : u.frameLatch.slotIn .showing = some i)
include h hon hi

theorem panel_of_not_shown (hshows : s.showsFrame e u.frameLatch.frames.slots[i] = false) : u.frameLatch.panel e =
    { (s.panel e).dark with starved := decide ((s.panel e).repeatLimit < u.frameLatch.frames.slots[i].repeats) } := by
  rw [State.frameLatch_slotIn] at hi
  rw [State.frameLatch_frames] at hshows ⊢
  rw [State.frameLatch_panel, State.latchedPanel_of_not_shown hi (by rw [h.panel, hon]) (by rw [h.showsFrame, hshows]), h.panel]

theorem panel_of_shown (hshows : s.showsFrame e u.frameLatch.frames.slots[i] = true) {shift : Int × Int}
    (hshift : shift = (s.panel e).wantedShift u.frameLatch.frames.slots[i] s.pose.history) : u.frameLatch.panel e =
      { s.panel e with
        dx := clampShift (s.panel e).marginH shift.1
        dy := clampShift (s.panel e).marginV shift.2
        shown := min (s.panel e).setpoint s.power.cap
        starved := false
        window := some ⟨i, (s.panel e).marginH - clampShift (s.panel e).marginH shift.1,
          (s.panel e).marginV - clampShift (s.panel e).marginV shift.2⟩ } := by
  rw [State.frameLatch_slotIn] at hi
  rw [State.frameLatch_frames] at hshows hshift
  rw [State.frameLatch_panel, State.latchedPanel_of_shown hi (shift := shift) (by rw [h.panel, hon]) (by rw [h.showsFrame, hshows])
    (by rw [h.panel, h.pose, hshift]), h.panel, h.cap]

end

end LatchFound

end Sys2Proof.Machine

open Sys2Proof Sys2Proof.Machine

/-- Settles O57: the latch is the promotion, the judgement of both panels and the events of these, and then its triggers. -/
theorem frameLatchShows : Obligations.FrameLatchShows := by
  intro s hserved hruns d hdue u hu
  have found : LatchFound s u := hu ▸ s.runTo_latchFound d
  have hrun : ChangesOnly [.clock, .lane] s u := hu ▸ s.runTo_changes d
  have hevents : u.events = s.events := by rw [hu, State.runTo_events]
  have hbefore := u.beforeTriggers_changes
  have htriggers : ChangesOnly sensingParts u.beforeTriggers u.frameLatch := u.beforeTriggers.latchTriggers_changes
  have hnone : u.frameLatch.slotIn .showing = none → EventsRaised 0 s u.beforeTriggers := fun h =>
    (State.beforeTriggers_raised_of_nothing_showing (State.frameLatch_slotIn _ u ▸ h)).congr hevents.symm rfl
  have hsome : ∀ i : Fin 3, u.frameLatch.slotIn .showing = some i →
      EventsRaised (s.latchMarks u.frameLatch.frames.slots[i]) s u.beforeTriggers := fun i h => by
    rw [State.frameLatch_frames, ← found.latchMarks]
    exact (State.beforeTriggers_raised_of_showing (State.frameLatch_slotIn _ u ▸ h)).congr hevents.symm rfl
  have hchanges : ChangesOnly [.clock, .lane, .slots, .leftPanel, .rightPanel, .latchCount, .latchDue, .raised, .notice]
      s u.beforeTriggers := hrun.step hbefore (by decide) (by decide)
  refine ⟨u.frameLatch, u.beforeTriggers, hu ▸ State.inTurn_timed (due := (·.scanout.latchDue)) hserved hruns hdue,
    hchanges.step htriggers (by decide) (by decide), ?clock, ?link, ?count, ?due, ?promoted, fun e => found.panel_of_not_on,
    fun e _ h => found.panel_of_nothing_showing h e, fun e i hon hi => ⟨fun hblack => ?black, fun hrepeats hlink hsource shift => ?shown⟩,
    fun hno hlaw => ?untriggered, hchanges, hbefore.clock_eq (by decide), hbefore.link_eq (by decide), ?frames, hnone, hsome,
    State.latchTriggers_reaches _⟩
  case clock => rw [htriggers.clock_eq (by decide), hbefore.clock_eq (by decide)]
  case link => rw [htriggers.link_eq (by decide), hbefore.link_eq (by decide)]
  case count =>
    rw [State.frameLatch_scanout, ← found.scanout]
    rfl
  case due =>
    rw [State.frameLatch_scanout, ← found.scanout, ← u.promote_changes.clock_eq (by decide)]
    rfl
  case promoted =>
    have hpromoted := u.promote_promoted
    have hframes : u.frames = s.frames := by rw [hu, State.runTo_frames]
    unfold Promoted State.slotIn at hpromoted ⊢
    rw [State.frameLatch_frames]
    rwa [hframes] at hpromoted
  case black =>
    refine (found.panel_of_not_shown hon hi ?_).trans rfl
    rw [Bool.eq_false_iff]
    intro hshows
    simp only [State.showsFrame, Bool.and_eq_true, decide_eq_true_eq, beq_iff_eq] at hshows
    obtain ⟨⟨⟨-, hrepeats⟩, hup⟩, hcrystal⟩ := hshows
    rcases hblack with hstarved | hdown | hfallback
    · omega
    · exact hdown hup
    · rw [hfallback] at hcrystal
      cases hcrystal
  case shown => exact found.panel_of_shown hon hi (by simpa [State.showsFrame, hon, hlink, hsource] using hrepeats)
  case untriggered =>
    have hsense : u.beforeTriggers.sense = s.sense := by rw [State.beforeTriggers_sense, hu, State.runTo_sense]
    have hgroup : ∀ g, u.beforeTriggers.group g = s.group g := fun g => by cases g <;> simp only [State.group, hsense]
    have hsame : u.frameLatch = u.beforeTriggers :=
      State.latchTriggers_of_no_latch (fun g => hgroup g ▸ hno g) (hlaw.of_sense_eq hsense)
    rw [hsame] at hnone hsome ⊢
    exact ⟨hchanges, hnone, hsome⟩
  case frames => rw [State.beforeTriggers_frames, State.frameLatch_frames]
end

section
namespace Sys2Proof.Machine

/-! ### Operand bytes (R171, R172) -/

@[simp] theorem length_le (k v : Nat) : (le k v).length = k := by
  induction k generalizing v with
  | zero => rfl
  | succ k ih => simp [le, ih]

theorem ofLe_le (k v : Nat) : ofLe (le k v) = v % 256 ^ k := by
  induction k generalizing v with
  | zero => simp [le, ofLe, Nat.mod_one]
  | succ k ih => rw [le, ofLe, ih, BitVec.toNat_ofNat, pow_succ' (256 : ℕ) k, Nat.mod_mul]

theorem take_le_append (k v : Nat) (bytes : List Byte) : (le k v ++ bytes).take k = le k v := List.take_left' (length_le k v)

/-- A slot set that stands in a request's operands (R171). -/
theorem slotSetOf_le_append (x : BitVec 16) (bytes : List Byte) : slotSetOf (le 2 x.toNat ++ bytes) = x := by
  have hx : x.toNat < 256 ^ 2 := x.isLt
  rw [slotSetOf, take_le_append, ofLe_le, Nat.mod_eq_of_lt hx, BitVec.ofNat_toNat, BitVec.setWidth_eq]

/-- The operation's operands are long enough. -/
theorem Request.needing_of_le {n : Nat} {r : Request} (h : n ≤ r.operands.length) (f : List Byte → Verdict) :
    r.needing n f = f r.operands := if_neg (not_lt.2 h)

theorem Request.needing_of_lt {n : Nat} {r : Request} (h : r.operands.length < n) (f : List Byte → Verdict) :
    r.needing n f = .refused .unknown none := if_pos h

/-! ### The service of a request (R139, R143, R144) -/

/-- The request has left its queue. -/
def State.dequeued (rest : List Request) (s : State) : State := { s with mgmt := { s.mgmt with requests := rest } }

theorem State.dequeued_changes (rest : List Request) (s : State) : ChangesOnly [.requests] s (s.dequeued rest) := by
  intro p hp
  cases p <;> simp_all [Part.same, State.dequeued]

@[simp] theorem State.dequeued_stance (rest : List Request) (s : State) : (s.dequeued rest).stance = s.stance := rfl

@[simp] theorem State.dequeued_sense (rest : List Request) (s : State) : (s.dequeued rest).sense = s.sense := rfl

@[simp] theorem State.dequeued_group (rest : List Request) (g : ScanGroup) (s : State) : (s.dequeued rest).group g = s.group g := rfl

/-- The state after the service of a request that passes the access check. -/
def State.afterService (act : Request → State → Verdict) (r : Request) (rest : List Request) (s : State) : State :=
  (s.dequeued rest).conclude r (act r (s.dequeued rest))

theorem exec_atService {row : Instr} {act : Request → State → Verdict} (hact : serviceAct row = some act) {r : Request}
    {rest : List Request} {s : State} (h : s.atService r rest) (hrow : r.service = row) :
    exec row s = .next (s.afterService act r rest) := by
  obtain ⟨⟨hrequests, hfill⟩, haccess⟩ := h
  have hjudge : (s.dequeued rest).judgeRequest act r = act r (s.dequeued rest) := if_pos haccess
  rw [exec_of_serviceAct hact, State.serve, hrequests]
  exact congrArg _ ((if_pos ⟨hfill, hrow⟩).trans (congrArg (State.conclude r · (s.dequeued rest)) hjudge))

/-- An effect and then its answer, which is placed at the tail (R143). -/
theorem Answered.place {P : List Part} {rest : List Request} {s u : State} (h : ChangesOnly P (s.dequeued rest) u)
    (hP : ∀ p ∈ [Part.requests, .answers], p ∉ P) (a : Answer) : Answered rest a s (u.placeAnswer a) := by
  have hrequests : u.mgmt.requests = rest := h .requests (hP _ (by simp))
  have hanswers : u.mgmt.answers = s.mgmt.answers := h .answers (hP _ (by simp))
  exact ⟨hrequests, congrArg (· ++ [a]) hanswers⟩

theorem ChangesOnly.place {P Q : List Part} {rest : List Request} {s u : State} (h : ChangesOnly P (s.dequeued rest) u)
    (hQ : [.requests, .answers] ++ P ⊆ Q) (a : Answer) : ChangesOnly Q s (u.placeAnswer a) :=
  have hqueues : [Part.requests, .answers] ⊆ Q := List.Subset.trans (List.subset_append_left _ _) hQ
  ((s.dequeued_changes rest).step h (fun _ hp => hqueues (by simp_all)) (List.Subset.trans (List.subset_append_right _ _) hQ)).trans
    ((u.placeAnswer_changes a).mono fun _ hp => hqueues (by simp_all))

section
variable {act : Request → State → Verdict} {r : Request} {rest : List Request} {s : State}

/-- A refused request is answered, and nothing else changes (R145). -/
theorem State.afterService_refused {why : Reason} {field : Option Nat} (h : act r (s.dequeued rest) = .refused why field) :
    Answered rest (r.refusal why field) s (s.afterService act r rest) ∧ ChangesOnly [.requests, .answers] s (s.afterService act r rest) := by
  rw [State.afterService, h]
  exact ⟨Answered.place (.refl [] _) (by decide) _, (ChangesOnly.refl [] _).place (by decide) _⟩

theorem State.afterService_busy {field : Option Nat} (h : act r (s.dequeued rest) = .busy field) :
    Answered rest (r.turnedAway field) s (s.afterService act r rest) ∧ ChangesOnly [.requests, .answers] s (s.afterService act r rest) := by
  rw [State.afterService, h]
  exact ⟨Answered.place (.refl [] _) (by decide) _, (ChangesOnly.refl [] _).place (by decide) _⟩

theorem State.afterService_done {value : List Slot} {u : State} (h : act r (s.dequeued rest) = .done value u) :
    s.afterService act r rest = u.placeAnswer (r.done value) := by
  rw [State.afterService, h]
  rfl

/-- A request that is carried out without an effect is answered, and nothing else changes. -/
theorem State.afterService_done_same {value : List Slot} (h : act r (s.dequeued rest) = .done value (s.dequeued rest)) :
    Answered rest (r.done value) s (s.afterService act r rest) ∧ ChangesOnly [.requests, .answers] s (s.afterService act r rest) := by
  rw [State.afterService_done h]
  exact ⟨Answered.place (.refl [] _) (by decide) _, (ChangesOnly.refl [] _).place (by decide) _⟩

end

/-! ### Samples cleared (R23) -/

theorem State.clearRange_sample (x : BitVec 16) (s : State) (k : Fin 16) : (s.clearRange x).sense.samples[k] =
    if x.getLsbD k.val then { s.sense.samples[k] with sticky := false, side := .none } else s.sense.samples[k] :=
  Vector.getElem_ofFn k.isLt

theorem State.clearExtremes_sample (x : BitVec 16) (s : State) (k : Fin 16) : (s.clearExtremes x).sense.samples[k] =
    if x.getLsbD k.val then { s.sense.samples[k] with extremesValid := false } else s.sense.samples[k] :=
  Vector.getElem_ofFn k.isLt

end Sys2Proof.Machine

open Sys2Proof Sys2Proof.Machine

/-- Settles O50: each operation rewrites the samples slot by slot. -/
theorem slotClears : Obligations.SlotClears := by
  refine ⟨fun x extra r hop hoperands rest s h => ?_, fun x extra r hop hoperands rest s h => ?_⟩
  · have hact : rangeClearAct r (s.dequeued rest) = .done [] ((s.dequeued rest).clearRange x) := by
      rw [rangeClearAct, Request.needing_of_le (by simp [hoperands]), hoperands, slotSetOf_le_append]
    have hchanges := (s.dequeued rest).clearRange_changes x
    refine ⟨_, exec_atService rfl h (by simp [Request.service, hop]), ?_⟩
    rw [State.afterService_done hact]
    exact ⟨Answered.place hchanges (by decide) _, hchanges.place (by decide) _, (s.dequeued rest).clearRange_sample x⟩
  · have hact : extremesClearAct r (s.dequeued rest) = .done [] ((s.dequeued rest).clearExtremes x) := by
      rw [extremesClearAct, Request.needing_of_le (by simp [hoperands]), hoperands, slotSetOf_le_append]
    have hchanges := (s.dequeued rest).clearExtremes_changes x
    refine ⟨_, exec_atService rfl h (by simp [Request.service, hop]), ?_⟩
    rw [State.afterService_done hact]
    exact ⟨Answered.place hchanges (by decide) _, hchanges.place (by decide) _, (s.dequeued rest).clearExtremes_sample x⟩
end

section
namespace Sys2Proof.Machine

/-! ### Rules that the Management Unit's queues have no part in -/

/-- The Management Unit's state replaced. -/
def State.withMgmt (m : Mgmt) (s : State) : State := { s with mgmt := m }

theorem ChangesOnly.withMgmt {P : List Part} {s t : State} (h : ChangesOnly P s t) (m : Mgmt) :
    ChangesOnly P (s.withMgmt m) (t.withMgmt m) := by
  intro p hp
  have := h p hp
  cases p with
  | requests => rfl
  | answers => rfl
  | deferred => rfl
  | _ => exact this

/-- What follows a state that has the request's effect, and then its answer: the two queues change, and the reservation stands. -/
theorem ChangesOnly.place_withMgmt {P : List Part} {s t : State} (h : ChangesOnly P s t) {m : Mgmt}
    (hdeferred : s.mgmt.deferred = m.deferred) (a : Answer) :
    ChangesOnly ([.requests, .answers] ++ P) (s.withMgmt m) (t.placeAnswer a) := by
  intro p hp
  simp only [List.cons_append, List.nil_append, List.mem_cons, not_or] at hp
  obtain ⟨hrequests, hanswers, hp⟩ := hp
  have := h p hp
  cases p with
  | requests => exact absurd rfl hrequests
  | answers => exact absurd rfl hanswers
  | deferred => exact this.trans hdeferred
  | _ => exact this

theorem PassAdvances.withMgmt {g : ScanGroup} {p : Pass} {taken : List SampleEntry} {rest : List (Fin 16)} {s t : State}
    (h : PassAdvances g p taken rest s t) (m : Mgmt) : PassAdvances g p taken rest (s.withMgmt m) (t.withMgmt m) := by
  obtain ⟨hchanges, hrest⟩ := h
  exact ⟨hchanges.withMgmt m, hrest⟩

theorem TriggerReaches.withMgmt {g : ScanGroup} {s t : State} (h : TriggerReaches g s t) (m : Mgmt) :
    TriggerReaches g (s.withMgmt m) (t.withMgmt m) := by
  obtain ⟨hstopped, hdropped, harmed, hpass⟩ := h
  refine ⟨fun hs => congrArg (State.withMgmt m) (hstopped hs), fun hs => ?_, fun ha hnone => ⟨fun hheld => ?_, fun hfree => ?_⟩,
    fun ha p hp hnodup ks hks => (hpass ha p hp hnodup ks hks).withMgmt m⟩
  · obtain ⟨hraised, hchanges⟩ := hdropped hs
    exact ⟨hraised, hchanges.withMgmt m⟩
  · obtain ⟨hgroup, hothers, hchanges⟩ := (harmed ha hnone).1 hheld
    exact ⟨hgroup, hothers, hchanges.withMgmt m⟩
  · exact ((harmed ha hnone).2 hfree).withMgmt m

theorem GroupStopped.withMgmt {g : ScanGroup} {s t : State} (h : GroupStopped g s t) (m : Mgmt) : GroupStopped g (s.withMgmt m) t := by
  obtain ⟨n, hchanges, hrest⟩ := h
  exact ⟨n.withMgmt m, hchanges.withMgmt m, hrest⟩

/-! ### GROUP_START and GROUP_STOP (R16, R17) -/

/-- A group moved to STOPPED loses its pass, its schedule and what it has in flight, and the arbiters then act (R17). -/
theorem State.stopGroup_stopped (g : ScanGroup) (s : State) : GroupStopped g s (s.stopGroup g) := by
  have hstop := s.setGroup_changes g { s.group g with phase := .stopped, pass := none, timer := none }
  have habandon := State.abandonInFlight_changes g (s.setGroup g { s.group g with phase := .stopped, pass := none, timer := none })
  have hgroup := habandon.group_eq (by decide) (by decide)
  refine ⟨_, hstop.step habandon (by decide) (by decide), ?_, fun h hne => ?_, fun y => ?_, State.arbitrate_acts _⟩
  · rw [hgroup, State.group_setGroup]
  · rw [hgroup, State.group_setGroup_of_ne hne]
  · cases y <;> simp [State.inUse, State.abandonInFlight]

/-- A group moved to STOPPED is STOPPED. -/
theorem GroupStopped.phase {g : ScanGroup} {s t : State} (h : GroupStopped g s t) : (t.group g).phase = .stopped := by
  obtain ⟨m, -, hgroup, -, -, -, hacts⟩ := h
  obtain ⟨hgranted, hother⟩ := hacts g
  by_cases h : Granted g m t
  · simp [hgranted h, hgroup, Group.granted]
  · simp [hother h, hgroup]

/-- A group's state as an answer codes it (R172). -/
theorem GroupPhase.code_eq (x : GroupPhase) : x.code = (match x with
    | .stopped => 0
    | .armed => 1
    | .passing => 2
    | .held => 3) := by
  cases x <;> rfl

/-- What GROUP_START makes of a STOPPED group (R12, R16). -/
def Group.armed (x : Group) (now : Time) : Group :=
  { x with
    phase := .armed
    pass := none
    timer := if x.trigger = .timer then some (.first now) else none }

section
variable {g : ScanGroup} {s : State}

theorem State.startGroup_of_stopped (h : (s.group g).phase = .stopped) :
    s.startGroup g = if g = .fast then (s.armGroup g).clearHistory else s.armGroup g := by
  simp only [State.startGroup, h]

theorem State.startGroup_of_order (h : (s.group g).phase = .armed) (htrigger : (s.group g).trigger = .order) :
    s.startGroup g = (s.trigger g).arbitrate := by
  simp only [State.startGroup, h, htrigger, if_true]

/-- A start changes nothing on a PASSING or HELD group, or on an ARMED one that takes no trigger from it. -/
theorem State.startGroup_of_running (h : (s.group g).phase = .passing ∨ (s.group g).phase = .held ∨
    ((s.group g).phase = .armed ∧ (s.group g).trigger ≠ .order)) : s.startGroup g = s := by
  rcases h with h | h | ⟨h, htrigger⟩
  · simp only [State.startGroup, h]
  · simp only [State.startGroup, h]
  · simp only [State.startGroup, h, if_neg htrigger]

theorem State.startGroup_of_stopped_changes (h : (s.group g).phase = .stopped) :
    ChangesOnly [.fast, .slow, .pose] s (s.startGroup g) := by
  have harm := s.armGroup_changes g
  rw [State.startGroup_of_stopped h]
  split
  · exact harm.step (State.clearHistory_changes _) (by decide) (by decide)
  · exact harm.mono (by decide)

theorem State.startGroup_of_stopped_group (h : (s.group g).phase = .stopped) :
    (s.startGroup g).group g = (s.group g).armed s.clock.now := by
  rw [State.startGroup_of_stopped h]
  split
  · rw [(State.clearHistory_changes _).group_eq (by decide) (by decide)]
    exact State.group_setGroup g _ s
  · exact State.group_setGroup g _ s

theorem State.startGroup_of_stopped_group_of_ne (h : (s.group g).phase = .stopped) {g' : ScanGroup} (hne : g' ≠ g) :
    (s.startGroup g).group g' = s.group g' := by
  rw [State.startGroup_of_stopped h]
  split
  · rw [(State.clearHistory_changes _).group_eq (by decide) (by decide)]
    exact State.group_setGroup_of_ne hne _ s
  · exact State.group_setGroup_of_ne hne _ s

theorem State.startGroup_of_stopped_pose (h : (s.group g).phase = .stopped) :
    (s.startGroup g).pose = if g = .fast then { s.pose with prev := none, history := [] } else s.pose := by
  have harm : (s.armGroup g).pose = s.pose := (s.armGroup_changes g).pose_eq (by decide)
  rw [State.startGroup_of_stopped h]
  split
  · exact congrArg (fun p : Pose => { p with prev := none, history := [] }) harm
  · exact harm

end

/-- The operand that names a group (R171). -/
theorem groupOf_operand (g : ScanGroup) : groupOf (if g = .fast then 0#8 else 1#8) = some g := by
  cases g <;> rfl

theorem groupOf_of_two_le {b : Byte} (h : 2 ≤ b.toNat) : groupOf b = none := by
  unfold groupOf
  split
  · omega
  · omega
  · rfl

section
variable {r : Request} {g : ScanGroup} {b : Byte} {extra : List Byte}

theorem groupStartAct_of_group (hoperands : r.operands = (if g = .fast then 0#8 else 1#8) :: extra) (s : State) :
    groupStartAct r s = if g = .fast ∧ ¬ s.stance.fast then .refused .conflict none else doneGroup g (s.startGroup g) := by
  rw [groupStartAct, Request.needing_of_le (by simp [hoperands]), hoperands]
  simp only [byteAt, List.getD_cons_zero, groupOf_operand]

theorem groupStopAct_of_group (hoperands : r.operands = (if g = .fast then 0#8 else 1#8) :: extra) (s : State) :
    groupStopAct r s = doneGroup g (if (s.group g).phase = .stopped then s else s.stopGroup g) := by
  rw [groupStopAct, Request.needing_of_le (by simp [hoperands]), hoperands]
  simp only [byteAt, List.getD_cons_zero, groupOf_operand]

theorem groupStartAct_of_no_group (hoperands : r.operands = b :: extra) (hb : 2 ≤ b.toNat) (s : State) :
    groupStartAct r s = .refused .range none := by
  rw [groupStartAct, Request.needing_of_le (by simp [hoperands]), hoperands]
  simp only [byteAt, List.getD_cons_zero, groupOf_of_two_le hb]

theorem groupStopAct_of_no_group (hoperands : r.operands = b :: extra) (hb : 2 ≤ b.toNat) (s : State) :
    groupStopAct r s = .refused .range none := by
  rw [groupStopAct, Request.needing_of_le (by simp [hoperands]), hoperands]
  simp only [byteAt, List.getD_cons_zero, groupOf_of_two_le hb]

end

end Sys2Proof.Machine

open Sys2Proof Sys2Proof.Machine

/-- Settles O49: a start by the phase that it finds the group in, a stop as the group's stopping, and the refusal of a third group. -/
theorem groupStartStop : Obligations.GroupStartStop := by
  refine ⟨fun g extra r hop hoperands rest s h => ?start, fun g extra r hop hoperands rest s h => ?stop,
    fun op b extra hop hb r hr hoperands rest s h => ?range⟩
  case start =>
    have hact := groupStartAct_of_group hoperands (s.dequeued rest)
    have hdone : g = .slow ∨ s.stance.fast = true →
        groupStartAct r (s.dequeued rest) = doneGroup g ((s.dequeued rest).startGroup g) := fun hallowed =>
      hact.trans (if_neg (by rcases hallowed with rfl | hfast <;> simp [*]))
    refine ⟨_, exec_atService rfl h (by simp [Request.service, hop]), fun hfast hforbids => ?conflict, fun hallowed hstopped => ?armed,
      fun hallowed hruns => ?running, fun hallowed harmed horder => ?order⟩
    case conflict => exact State.afterService_refused (hact.trans (if_pos ⟨hfast, by simpa using hforbids⟩))
    case armed =>
      have hchanges := State.startGroup_of_stopped_changes (s := s.dequeued rest) hstopped
      have hgroup := State.startGroup_of_stopped_group (s := s.dequeued rest) hstopped
      rw [State.afterService_done (hdone hallowed), hgroup]
      exact ⟨hgroup, fun g' hne => State.startGroup_of_stopped_group_of_ne (s := s.dequeued rest) hstopped hne,
        State.startGroup_of_stopped_pose (s := s.dequeued rest) hstopped, Answered.place hchanges (by decide) _,
        hchanges.place (by decide) _⟩
    case running =>
      refine State.afterService_done_same ((hdone hallowed).trans ?_)
      rw [State.startGroup_of_running (s := s.dequeued rest) hruns]
      rfl
    case order =>
      have hreaches := ((s.dequeued rest).trigger_reaches g).withMgmt s.mgmt
      have hchanges := (s.dequeued rest).trigger_changes g
      have hacts := ((s.dequeued rest).trigger g).arbitrate_acts
      have harbiters := ((s.dequeued rest).trigger g).arbitrate_changes
      rw [State.afterService_done (hdone hallowed), State.startGroup_of_order (s := s.dequeued rest) harmed horder]
      have hanswered := Answered.place (hchanges.step harbiters (R := sensingParts) (by decide) (by decide)) (by decide)
        (r.done [slotNat (((s.dequeued rest).trigger g).arbitrate.group g).phase.code])
      refine ⟨?_, ((s.dequeued rest).trigger g).withMgmt s.mgmt, hreaches, hacts, ?_⟩
      · rw [GroupPhase.code_eq] at hanswered
        exact hanswered
      · exact harbiters.place_withMgmt (m := s.mgmt) (hchanges .deferred (by decide)) _
  case stop =>
    have hact := groupStopAct_of_group hoperands (s.dequeued rest)
    refine ⟨_, exec_atService rfl h (by simp [Request.service, hop]), ?_⟩
    by_cases hstopped : (s.group g).phase = .stopped
    · have hdone : groupStopAct r (s.dequeued rest) = .done [0] (s.dequeued rest) := by
        rw [hact, if_pos (by exact hstopped), doneGroup, State.dequeued_group, hstopped]
        rfl
      obtain ⟨hanswered, hchanges⟩ := State.afterService_done_same hdone
      exact ⟨hanswered, fun _ => hchanges, fun hruns => absurd hstopped hruns⟩
    · have hstops := State.stopGroup_stopped g (s.dequeued rest)
      have hchanges := State.stopGroup_changes g (s.dequeued rest)
      have hdone : groupStopAct r (s.dequeued rest) = .done [0] ((s.dequeued rest).stopGroup g) := by
        rw [hact, if_neg (by exact hstopped), doneGroup, hstops.phase]
        rfl
      rw [State.afterService_done hdone]
      exact ⟨Answered.place hchanges (by decide) _, fun hruns => absurd hruns hstopped, fun _ =>
        ⟨hstops.withMgmt s.mgmt, hchanges.place (by decide) _⟩⟩
  case range =>
    rcases hop with rfl | rfl
    · exact ⟨_, exec_atService (by simp [Request.service, hr]; rfl) h rfl, State.afterService_refused (groupStartAct_of_no_group hoperands hb _)⟩
    · exact ⟨_, exec_atService (by simp [Request.service, hr]; rfl) h rfl, State.afterService_refused (groupStopAct_of_no_group hoperands hb _)⟩
end

section
namespace Sys2Proof.Machine

/-! ### Entry images (Table 11-6, R172) -/

@[simp] theorem slotsOption_length (x : Option Slot) : (slotsOption x).length = 2 := by
  cases x <;> rfl

theorem slotsOption_eq (x : Option Slot) : slotsOption x = [slotBool x.isSome, x.getD 0] := by
  cases x <;> rfl

/-- The low half of a 48-bit accumulator. -/
theorem setWidth_eq_slotInt (v : BitVec 48) : v.setWidth 32 = slotInt v.toInt := by
  apply BitVec.eq_of_toNat_eq
  rw [slotInt, BitVec.toNat_setWidth, BitVec.toNat_ofInt, BitVec.toInt_eq_toNat_cond]
  split <;> omega

/-- The high half of a 48-bit accumulator, sign-extended. -/
theorem signExtend_eq_slotInt (v : BitVec 48) : (v.extractLsb' 32 16).signExtend 32 = slotInt (v.toInt / 4294967296) := by
  have hhigh : (v.extractLsb' 32 16).toInt = v.toInt / 4294967296 := by
    have := v.isLt
    rw [BitVec.toInt_eq_toNat_cond, BitVec.toInt_eq_toNat_cond, BitVec.extractLsb'_toNat, Nat.shiftRight_eq_div_pow]
    split <;> split <;> omega
  rw [BitVec.signExtend, hhigh, slotInt]

theorem slots48_eq (v : BitVec 48) : slots48 v = [slotInt v.toInt, slotInt (v.toInt / 4294967296)] := by
  rw [slots48, setWidth_eq_slotInt, signExtend_eq_slotInt]

theorem slotsOption_map_setWidth (x : Option (BitVec 16)) :
    slotsOption (x.map fun n => n.setWidth 32) = [slotBool x.isSome, (x.getD 0).setWidth 32] := by
  cases x <;> rfl

theorem Playout.phaseSlot_eq (q : Playout) : slotNat q.phase.code = q.phaseSlot := by
  unfold Playout.phaseSlot
  cases q.phase <;> rfl

theorem slotNat_toNat (b : Byte) : slotNat b.toNat = b.setWidth 32 := BitVec.ofNat_toNat 32 b

theorem sourceCode_eq (x : Option (Fin 16)) : sourceCode x = (x.map Fin.val).getD 16 := by
  cases x <;> rfl

theorem length_filter_filterMap {α β : Type} (f : α → Option β) (p : β → Bool) (l : List α) :
    ((l.filterMap f).filter p).length = (l.filter fun a => (f a).any p).length := by
  induction l with
  | nil => rfl
  | cons a l ih =>
    cases h : f a with
    | none => simpa [List.filterMap_cons, h] using ih
    | some b =>
      cases hp : p b <;> simp [h, hp, ih]

/-- A group's minimum, by the numbers of its motion and its analog slots (R11). -/
theorem State.groupMinimum_eq (g : ScanGroup) (s : State) {motion analog : Nat}
    (hmotion : motion = ((s.members g).filter fun k => s.sense.channels[k].source.any fun src => decide (src.val < 6)).length)
    (hanalog : analog = ((s.members g).filter fun k => s.sense.channels[k].source.any fun src => decide (6 ≤ src.val)).length) :
    s.groupMinimum g = (if motion = 0 then 0 else 24) + 3 * analog := by
  have hnot : (fun src : Fin 16 => !isMotion src) = fun src => decide (6 ≤ src.val) := by
    funext src
    rw [isMotion, Bool.eq_iff_iff]
    simp
  have hany : (((s.members g).filterMap fun k => s.sense.channels[k].source).any isMotion = true) ↔ ¬ motion = 0 := by
    rw [hmotion, ← length_filter_filterMap (fun k : Fin 16 => s.sense.channels[k].source), List.length_eq_zero_iff, List.filter_eq_nil_iff,
      List.any_eq_true]
    simp only [isMotion, not_forall, not_not, exists_prop]
  unfold State.groupMinimum
  simp only [hnot, length_filter_filterMap, ← hanalog]
  congr 1
  by_cases h : motion = 0
  · rw [if_pos h, if_neg (fun hm => hany.1 hm h)]
  · rw [if_neg h, if_pos (hany.2 h)]

/-- A group's effective period (R11): FAST's is held to the stance's floor. -/
theorem State.effectivePeriod_eq (g : ScanGroup) (s : State) : s.effectivePeriod g =
    max (max (s.group g).period (s.groupMinimum g)) (if g = .fast then s.stance.fastFloor else 0) := by
  cases g with
  | fast => rfl
  | slow => exact (Nat.max_zero _).symm

/-- An entry's image is that long (Table 11-6). -/
theorem State.entryImage_of_lt {t : Table} (ht : t ≠ .snapshot) {i : Nat} (hi : i < t.entries) (s : State) :
    ∃ image, s.entryImage t i = some image ∧ image.length = t.allSlots := by
  have hone : t.entries = 1 → i = 0 := fun h => by omega
  cases t with
  | streams => exact ⟨_, dif_pos hi, rfl⟩
  | channels => exact ⟨_, dif_pos hi, rfl⟩
  | groups =>
    obtain rfl | rfl : i = 0 ∨ i = 1 := by simp only [Table.entries] at hi; omega
    · exact ⟨_, rfl, rfl⟩
    · exact ⟨_, rfl, rfl⟩
  | panels =>
    obtain rfl | rfl : i = 0 ∨ i = 1 := by simp only [Table.entries] at hi; omega
    · exact ⟨_, rfl, rfl⟩
    · exact ⟨_, rfl, rfl⟩
  | scanout => exact ⟨_, if_pos (hone rfl), rfl⟩
  | audio => exact ⟨_, if_pos (hone rfl), rfl⟩
  | report => exact ⟨_, if_pos (hone rfl), rfl⟩
  | stances => exact ⟨_, dif_pos hi, rfl⟩
  | stanceLimits => exact ⟨_, if_pos (hone rfl), rfl⟩
  | rules => exact ⟨_, dif_pos hi, rfl⟩
  | senseState => exact ⟨_, dif_pos hi, rfl⟩
  | snapshot => exact absurd rfl ht
  | slots => exact ⟨_, dif_pos hi, by simp [State.slotImage, Table.allSlots]⟩
  | pose => exact ⟨_, if_pos (hone rfl), by simp [Pose.image, slots48, Table.allSlots]⟩
  | queues => exact ⟨_, if_pos (hone rfl), by unfold State.queuesImage; cases s.mgmt.deferred <;> rfl⟩
  | powerState => exact ⟨_, if_pos (hone rfl), by unfold Power.image; cases s.power.ramp <;> rfl⟩
  | events => exact ⟨_, if_pos (hone rfl), rfl⟩
  | counters =>
    exact ⟨_, if_pos (hone rfl), by simp [State.countersImage, Table.allSlots, List.length_flatMap]⟩
  | cause => exact ⟨_, if_pos (hone rfl), rfl⟩

theorem State.entryImage_of_le {t : Table} {i : Nat} (hi : t.entries ≤ i) (s : State) : s.entryImage t i = none := by
  have hone : t.entries = 1 → ¬ i = 0 := fun h => by omega
  cases t with
  | streams => exact dif_neg (not_lt.2 hi)
  | channels => exact dif_neg (not_lt.2 hi)
  | groups =>
    simp only [Table.entries] at hi
    obtain ⟨j, rfl⟩ := Nat.exists_eq_add_of_le' hi
    rfl
  | panels =>
    simp only [Table.entries] at hi
    obtain ⟨j, rfl⟩ := Nat.exists_eq_add_of_le' hi
    rfl
  | stances => exact dif_neg (not_lt.2 hi)
  | rules => exact dif_neg (not_lt.2 hi)
  | senseState => exact dif_neg (not_lt.2 hi)
  | slots => exact dif_neg (not_lt.2 hi)
  | _ => exact if_neg (hone rfl)

theorem readOnlyImages : ReadOnlyImages := by
  refine ⟨fun s k x hx => ?samples, fun s i f hf => ?slots, fun s => ?pose, fun s => ?queues, fun s => ?power, fun s => rfl,
    fun s c hc => ?counters, fun s => ?cause⟩
  case samples =>
    have hk : s.entryImage .senseState k.val = some x.image := hx ▸ dif_pos k.isLt
    rw [hk, SampleState.image]
    cases x.side <;> rfl
  case slots =>
    have hi : s.entryImage .slots i.val = some (s.slotImage i) := dif_pos i.isLt
    rw [hi, State.slotImage, ← hf, slotsOption_map_setWidth, slotsOption_eq]
    cases f.phase <;> rfl
  case pose =>
    show some s.pose.image = _
    rw [Pose.image, slots48_eq, slots48_eq, slotsOption_eq]
    rcases hlast : s.pose.history.getLast? with _ | e
    · rw [List.getLast?_eq_none_iff.1 hlast]
      rfl
    · cases hhistory : s.pose.history with
      | nil => simp [hhistory] at hlast
      | cons x xs => rfl
  case queues =>
    show some s.queuesImage = _
    unfold State.queuesImage Playout.image
    rw [Playout.phaseSlot_eq, Playout.phaseSlot_eq]
    rcases s.mgmt.deferred with _ | d
    · rfl
    · simp only [slotNat_toNat]
      rfl
  case power =>
    show some s.power.image = _
    unfold Power.image
    cases s.power.ramp <;> rfl
  case counters =>
    subst hc
    rfl
  case cause =>
    show some s.cause.image = _
    unfold Cause.image
    cases s.cause.kind <;> rfl

theorem writableImages : WritableImages := by
  refine ⟨fun s i e he => ?_, fun s k c hc => ?_, fun s g x hx motion analog hmotion hanalog => ?_, fun s e p hp => ?_, fun s => rfl,
    fun s a ha => ?_, fun s => rfl, fun s i x hx => ?_, fun s => rfl, fun s i x hx => ?_, fun s x hx => ?_⟩
  · subst he
    exact dif_pos i.isLt
  · subst hc
    rw [← sourceCode_eq]
    exact dif_pos k.isLt
  · subst hx
    rw [← State.groupMinimum_eq g s hmotion hanalog]
    rw [← State.effectivePeriod_eq]
    cases g <;> rfl
  · subst hp
    cases e <;> rfl
  · subst ha
    rfl
  · subst hx
    exact dif_pos i.isLt
  · subst hx
    exact dif_pos i.isLt
  · subst hx
    rfl

theorem codings : Codings := by
  unfold Codings
  decide

/-! ### READ (R24, R25, R146, R147) -/

section
variable {r : Request}

theorem Request.service_read (hop : r.op = 0x01#8) (htable : r.table ≠ some .snapshot) : r.service = .read := by
  simp [Request.service, hop, htable]

theorem Request.service_readSnapshot (hop : r.op = 0x01#8) (htable : r.table = some .snapshot) : r.service = .readSnapshot := by
  simp [Request.service, hop, htable]

variable {table index : Byte} {extra : List Byte}

theorem Request.table_of_operands (hoperands : r.operands = table :: extra) : r.table = tableOf table := by
  rw [Request.table, hoperands]
  rfl

theorem readAct_of_table (hop : r.op = 0x01#8) (hoperands : r.operands = table :: index :: extra) {t : Table}
    (ht : tableOf table = some t) (s : State) : readAct r s =
      (match s.entryImage t index.toNat with
      | none => .refused .range none
      | some image => .done image s) := by
  rw [readAct, if_neg (not_not.2 hop), Request.needing_of_le (by simp [hoperands])]
  simp only [Request.table_of_operands hoperands, ht, hoperands]
  rfl

theorem readAct_of_no_table (hop : r.op = 0x01#8) (hoperands : r.operands = table :: index :: extra) (ht : tableOf table = none)
    (s : State) : readAct r s = .refused .unknown none := by
  rw [readAct, if_neg (not_not.2 hop), Request.needing_of_le (by simp [hoperands])]
  simp only [Request.table_of_operands hoperands, ht]

theorem readAct_of_short (hop : r.op = 0x01#8) (hshort : r.operands.length < 2) (s : State) :
    readAct r s = .refused .unknown none := by
  rw [readAct, if_neg (not_not.2 hop), Request.needing_of_lt hshort]

theorem readSnapshotAct_eq (hoperands : r.operands = table :: index :: extra) (s : State) : readSnapshotAct r s =
    if index ≠ 0#8 then .refused .range none else .done s.sense.snapshot.image s.takeSnapshot := by
  rw [readSnapshotAct, Request.needing_of_le (by simp [hoperands]), hoperands]
  rfl

end

theorem tableOf_of_le {code : Byte} (h : 19 ≤ code.toNat) : tableOf code = none := List.getElem?_eq_none h

end Sys2Proof.Machine

open Sys2Proof Sys2Proof.Machine

/-- Settles O33: the image as it stands, or the refusal, by the table and the index; for SNAPSHOT by what taking it does. -/
theorem readAnswersEntry : Obligations.ReadAnswersEntry := by
  refine ⟨fun table index extra r hop hoperands rest s h => ⟨fun t ht hne => ?entry, fun hlarge => ?unknown, fun htable hindex => ?range,
    fun htable hindex => ?snapshot⟩, fun r hop hshort rest s h => ?short, readOnlyImages, writableImages, codings⟩
  case entry =>
    have hrow : r.service = .read := Request.service_read hop (by rw [Request.table_of_operands hoperands, ht]; simpa using hne)
    have hact := readAct_of_table hop hoperands ht (s.dequeued rest)
    refine ⟨_, exec_atService rfl h hrow, ?_⟩
    rcases lt_or_ge index.toNat t.entries with hi | hi
    · obtain ⟨image, himage, hlength⟩ := State.entryImage_of_lt hne hi (s.dequeued rest)
      rw [himage] at hact
      obtain ⟨hanswered, hchanges⟩ := State.afterService_done_same hact
      exact ⟨hchanges, fun _ => ⟨image, himage, hlength, hanswered⟩, fun hle => absurd hi (not_lt.2 hle)⟩
    · rw [State.entryImage_of_le hi] at hact
      obtain ⟨hanswered, hchanges⟩ := State.afterService_refused hact
      exact ⟨hchanges, fun hlt => absurd hlt (not_lt.2 hi), fun _ => hanswered⟩
  case unknown =>
    have ht := tableOf_of_le hlarge
    exact ⟨_, exec_atService rfl h (Request.service_read hop (by rw [Request.table_of_operands hoperands, ht]; simp)),
      State.afterService_refused (readAct_of_no_table hop hoperands ht _)⟩
  case range =>
    have hrow := Request.service_readSnapshot hop ((Request.table_of_operands hoperands).trans (by rw [htable]; rfl))
    exact ⟨_, exec_atService rfl h hrow, State.afterService_refused ((readSnapshotAct_eq hoperands _).trans (if_pos hindex))⟩
  case snapshot =>
    have hrow := Request.service_readSnapshot hop ((Request.table_of_operands hoperands).trans (by rw [htable]; rfl))
    have hact := (readSnapshotAct_eq hoperands (s.dequeued rest)).trans (if_neg (not_not.2 hindex))
    refine ⟨_, exec_atService rfl h hrow, ?_⟩
    rw [State.afterService_done hact]
    refine ⟨Answered.place (s.dequeued rest).takeSnapshot_changes (by decide) _, fun htaken => ?_, fun huntaken hfree => ?_,
      fun huntaken hheld => ?_⟩
    · rw [State.takeSnapshot_of_taken (s := s.dequeued rest) htaken]
      exact (ChangesOnly.refl [] _).place (by decide) _
    · rw [State.takeSnapshot_of_not_held (s := s.dequeued rest) huntaken hfree]
      exact ⟨rfl, (s.dequeued rest).markTaken_changes.place (by decide) _⟩
    · have hmarked := (s.dequeued rest).markTaken_changes
      have hstarted := (s.dequeued rest).markTaken.startPass_changes .slow
      have hdeferred := (hmarked.step hstarted (R := .snapshot :: sensingParts) (by decide) (by decide)) .deferred (by decide)
      have hacts := ((s.dequeued rest).markTaken.startPass .slow).arbitrate_acts
      have harbiters := ((s.dequeued rest).markTaken.startPass .slow).arbitrate_changes
      rw [State.takeSnapshot_of_held (s := s.dequeued rest) huntaken hheld]
      exact ⟨(s.dequeued rest).markTaken.withMgmt s.mgmt, ((s.dequeued rest).markTaken.startPass .slow).withMgmt s.mgmt, rfl,
        hmarked.withMgmt s.mgmt, ((s.dequeued rest).markTaken.startPass_advances .slow).withMgmt s.mgmt, hacts,
        harbiters.place_withMgmt (m := s.mgmt) hdeferred _⟩
  case short =>
    by_cases ht : r.table = some .snapshot
    · rw [Request.service_readSnapshot hop ht]
      exact ⟨_, exec_atService rfl h (Request.service_readSnapshot hop ht), State.afterService_refused (Request.needing_of_lt hshort _)⟩
    · rw [Request.service_read hop ht]
      exact ⟨_, exec_atService rfl h (Request.service_read hop ht), State.afterService_refused (readAct_of_short hop hshort _)⟩
end

section
namespace Sys2Proof.Machine

/-! ### The operands of a WRITE (Table 11-5, R148, R171, R172) -/

theorem length_flatMap_le (image : List Slot) : (image.flatMap fun v => le 4 v.toNat).length = 4 * image.length := by
  simp [List.length_flatMap, Nat.mul_comm]

/-- Slot `k` of an image's bytes. -/
theorem imageSlot_flatMap_le {image : List Slot} {k : Nat} (hk : k < image.length) (extra : List Byte) :
    imageSlot (image.flatMap (fun v => le 4 v.toNat) ++ extra) k = image[k] := by
  induction image generalizing k with
  | nil => simp at hk
  | cons v image ih =>
    rw [List.flatMap_cons, List.append_assoc]
    cases k with
    | zero =>
      have hv : v.toNat < 256 ^ 4 := v.isLt
      rw [imageSlot, Nat.mul_zero, List.drop_zero, take_le_append, ofLe_le, Nat.mod_eq_of_lt hv, BitVec.ofNat_toNat, BitVec.setWidth_eq]
      rfl
    | succ k =>
      have hdrop : (le 4 v.toNat ++ (image.flatMap (fun v => le 4 v.toNat) ++ extra)).drop (4 * (k + 1)) =
          (image.flatMap (fun v => le 4 v.toNat) ++ extra).drop (4 * k) := by
        rw [Nat.mul_succ, Nat.add_comm, ← List.drop_drop, List.drop_left' (length_le _ _)]
      rw [imageSlot, hdrop]
      exact ih (Nat.lt_of_succ_lt_succ hk)

theorem maskedImage_length (mask : BitVec 32) (values ignored : List Slot) : (maskedImage mask values ignored).length = values.length := by
  simp [maskedImage]

/-- A masked slot of a written image holds the value written. -/
theorem imageSlot_maskedImage {mask : BitVec 32} {values : List Slot} {k : Nat} (hk : k < values.length) (hmask : mask.getLsbD k = true)
    (ignored : List Slot) (extra : List Byte) :
    imageSlot ((maskedImage mask values ignored).flatMap (fun v => le 4 v.toNat) ++ extra) k = values[k] := by
  rw [imageSlot_flatMap_le (by rwa [maskedImage_length])]
  simp [maskedImage, hmask, hk]

/-- A field that a WRITE leaves, where a masked slot decodes to the value written (R149). -/
theorem maskedField_maskedImage {α : Type} {mask : BitVec 32} {values : List Slot} {k : Nat} {decode : Slot → Option α} {v : α}
    (hk : k < values.length) (hdecode : mask.getLsbD k = true → decode values[k] = some v) (ignored : List Slot) (extra : List Byte)
    (old : α) :
    maskedField mask ((maskedImage mask values ignored).flatMap (fun v => le 4 v.toNat) ++ extra) k decode old =
      .ok (pick mask k v old) := by
  unfold maskedField pick
  cases hmask : mask.getLsbD k with
  | true => simp only [if_true, imageSlot_maskedImage hk hmask, hdecode hmask]
  | false => rfl

/-- A field whose masked slot does not decode refuses the WRITE (R148). -/
theorem maskedField_error {α : Type} {mask : BitVec 32} {values : List Slot} {k : Nat} {decode : Slot → Option α}
    (hk : k < values.length) (hmask : mask.getLsbD k = true) (hdecode : decode values[k] = none) (ignored : List Slot) (extra : List Byte)
    (old : α) :
    maskedField mask ((maskedImage mask values ignored).flatMap (fun v => le 4 v.toNat) ++ extra) k decode old = .error k := by
  simp only [maskedField, hmask, if_true, imageSlot_maskedImage hk hmask, hdecode]

theorem lowestField_eq_none {mask : BitVec 32} {n : Nat} (hmask : mask.toNat < 2 ^ n) {p : Nat → Bool} (hp : ∀ k < n, p k = false) :
    lowestField mask p = none := by
  refine List.find?_eq_none.2 fun k _ => ?_
  rcases lt_or_ge k n with hk | hk
  · simp [hp k hk]
  · have hbit : mask.getLsbD k = false := Nat.testBit_lt_two_pow (hmask.trans_le (Nat.pow_le_pow_right (by decide) hk))
    simp [hbit]

section
variable {table index : Nat} {mask : BitVec 32} {image : List Slot} {extra : List Byte} {r : Request}
  (hoperands : r.operands = writeOperands table index mask image extra)
include hoperands

theorem Request.operands_cons_of_write : r.operands = BitVec.ofNat 8 table :: BitVec.ofNat 8 index ::
    (le 4 mask.toNat ++ (image.flatMap (fun v => le 4 v.toNat) ++ extra)) := by
  rw [hoperands, writeOperands, List.append_assoc, List.append_assoc, List.append_assoc]
  rfl

theorem Request.table_of_write : r.table = tableOf (BitVec.ofNat 8 table) :=
  Request.table_of_operands (Request.operands_cons_of_write hoperands)

theorem Request.length_of_write : r.operands.length = 6 + 4 * image.length + extra.length := by
  simp only [Request.operands_cons_of_write hoperands, List.length_cons, List.length_append, length_le, length_flatMap_le]
  omega

theorem Request.mask_of_write : r.mask = some mask := by
  have hmask : mask.toNat < 256 ^ 4 := mask.isLt
  rw [Request.mask, if_neg (by rw [Request.length_of_write hoperands]; omega), Request.operands_cons_of_write hoperands,
    List.drop_succ_cons, List.drop_succ_cons, List.drop_zero, take_le_append, ofLe_le, Nat.mod_eq_of_lt hmask, BitVec.ofNat_toNat,
    BitVec.setWidth_eq]

theorem Request.drop_of_write : r.operands.drop 6 = image.flatMap (fun v => le 4 v.toNat) ++ extra := by
  rw [Request.operands_cons_of_write hoperands, List.drop_succ_cons, List.drop_succ_cons, List.drop_left' (length_le _ _)]

/-- A WRITE that names writable fields of an entry there is comes to the checks of its fields' values (R145). -/
theorem writeAct_of_write {t : Table} {s : State} (hcount : t.writableSlots ≤ s.fieldCount t) (hlength : image.length = t.writableSlots)
    (hmask : mask.toNat < 2 ^ t.writableSlots) (hindex : index < t.entries) (hentries : t.entries ≤ 256) {readOnly : Nat → Nat → Bool}
    (hreadOnly : ∀ k < t.writableSlots, readOnly index k = false) (body : Nat → BitVec 32 → List Byte → Verdict) :
    writeAct t readOnly body r s = body index mask (image.flatMap (fun v => le 4 v.toNat) ++ extra) := by
  have hbyte : (byteAt r.operands 1).toNat = index := by
    rw [Request.operands_cons_of_write hoperands]
    exact Nat.mod_eq_of_lt (hindex.trans_le hentries)
  have hshort : ¬ r.operands.length < 6 + 4 * t.writableSlots := by
    rw [Request.length_of_write hoperands, hlength]
    omega
  have hunknown : lowestField mask (fun k => decide (s.fieldCount t ≤ k)) = none :=
    lowestField_eq_none hmask fun k hk => decide_eq_false (not_le.2 (hk.trans_le hcount))
  have hfields : lowestField mask (fun k => decide (t.writableSlots ≤ k) || readOnly index k) = none :=
    lowestField_eq_none hmask fun k hk => by rw [hreadOnly k hk, decide_eq_false (not_le.2 hk)]; rfl
  rw [writeAct, Request.mask_of_write hoperands]
  simp only [hbyte, if_neg hshort, hunknown, hfields, Option.isSome_none, Bool.false_eq_true, if_false, if_neg (not_le.2 hindex),
    Request.drop_of_write hoperands]

end

/-! ### Codings read back (R172) -/

theorem decodeBool_slotBool (b : Bool) : decodeBool (slotBool b) = some b := by
  cases b <;> rfl

theorem decodeScanMode_code (x : ScanMode) : decodeScanMode (slotNat x.code) = some x := by
  cases x <;> rfl

theorem decodeTrigger_code (x : Trigger) : decodeTrigger (slotNat x.code) = some x := by
  cases x <;> rfl

theorem decodeGroupField_code (x : GroupField) : decodeGroupField (slotNat x.code) = some x := by
  cases x <;> rfl

theorem decodeRole_code (x : Role) : decodeRole (slotNat x.code) = some x := by
  cases x <;> rfl

theorem decodeRangeMode_code (x : RangeMode) : decodeRangeMode (slotNat x.code) = some x := by
  cases x <;> rfl

theorem slotNat_toNat_of_lt {n : Nat} (h : n < 2 ^ 32) : (slotNat n).toNat = n := Nat.mod_eq_of_lt h

theorem decodeSource_code (x : Option (Fin 16)) : decodeSource (slotNat (sourceCode x)) = some x := by
  cases x with
  | none => rfl
  | some k =>
    have hk : (slotNat (sourceCode (some k))).toNat = k.val := slotNat_toNat_of_lt (k.isLt.trans (by decide))
    simp [decodeSource, hk]

theorem decodeSigned16_slotInt {x : Int} (h : -32768 ≤ x ∧ x ≤ 32767) : decodeSigned16 (slotInt x) = some x := by
  have hx : (slotInt x).toInt = x := by
    rw [slotInt, BitVec.toInt_ofInt]
    exact Int.bmod_eq_of_le (by omega) (by omega)
  simp only [decodeSigned16, hx, if_pos h]

theorem decodeIn_slotNat {lo hi n : Nat} (hlo : lo ≤ n) (hhi : n ≤ hi) (h : hi < 2 ^ 32) : decodeIn lo hi (slotNat n) = some n := by
  simp only [decodeIn, slotNat_toNat_of_lt (hhi.trans_lt h), if_pos (And.intro hlo hhi)]

/-- Hold yes is read on SLOW only (R9). -/
theorem decodeHold_slotBool (g : ScanGroup) (hold : Bool) :
    decodeHold g (slotBool hold) = if g = .fast ∧ hold = true then none else some hold := by
  cases g <;> cases hold <;> rfl

/-! ### A WRITE of a group's record (R9) -/

/-- A group's record as a WRITE leaves it (R9, R149). -/
def Group.picked (mask : BitVec 32) (mode : ScanMode) (trigger : Trigger) (period : Slot) (hold : Bool) (x : Group) : Group :=
  { x with
    mode := pick mask 0 mode x.mode
    trigger := pick mask 1 trigger x.trigger
    period := pick mask 2 (clamped 50 10000000 period) x.period
    hold := pick mask 3 hold x.hold }

/-- The bytes of a written GROUPS image. -/
def groupBytes (mask : BitVec 32) (mode : ScanMode) (trigger : Trigger) (period : Slot) (hold : Bool) (ignored : List Slot)
    (extra : List Byte) : List Byte :=
  (maskedImage mask [slotNat mode.code, slotNat trigger.code, period, slotBool hold] ignored).flatMap (fun v => le 4 v.toNat) ++ extra

section
variable {g : ScanGroup} {mask : BitVec 32} {mode : ScanMode} {trigger : Trigger} {period : Slot} {hold : Bool} {ignored : List Slot}
  {extra : List Byte} {x : Group}

theorem Group.written_of_allowed (h : ¬ (g = .fast ∧ hold = true ∧ mask.getLsbD 3 = true)) :
    x.written g mask (groupBytes mask mode trigger period hold ignored extra) = .ok (x.picked mask mode trigger period hold) := by
  have hhold : mask.getLsbD 3 = true → decodeHold g (slotBool hold) = some hold := fun hm => by
    rw [decodeHold_slotBool, if_neg (fun hf => h ⟨hf.1, hf.2, hm⟩)]
  unfold Group.written groupBytes
  rw [maskedField_maskedImage (by simp) (fun _ => decodeScanMode_code mode),
    maskedField_maskedImage (by simp) (fun _ => decodeTrigger_code trigger),
    maskedField_maskedImage (v := clamped 50 10000000 period) (by simp) (fun _ => rfl), maskedField_maskedImage (by simp) hhold]
  rfl

theorem Group.written_of_hold_fast (hg : g = .fast) (hhold : hold = true) (hmask : mask.getLsbD 3 = true) :
    x.written g mask (groupBytes mask mode trigger period hold ignored extra) = .error 3 := by
  unfold Group.written groupBytes
  rw [maskedField_maskedImage (by simp) (fun _ => decodeScanMode_code mode),
    maskedField_maskedImage (by simp) (fun _ => decodeTrigger_code trigger),
    maskedField_maskedImage (v := clamped 50 10000000 period) (by simp) (fun _ => rfl),
    maskedField_error (by simp) hmask ((decodeHold_slotBool g hold).trans (if_pos ⟨hg, hhold⟩))]
  rfl

theorem writeGroupsAct_eq (hmask : mask.toNat < 2 ^ 4) {r : Request} (hoperands : r.operands = writeOperands 2
    (if g = .fast then 0 else 1) mask (maskedImage mask [slotNat mode.code, slotNat trigger.code, period, slotBool hold] ignored) extra)
    (s : State) : writeGroupsAct r s =
      ranged ((s.group g).written g mask (groupBytes mask mode trigger period hold ignored extra)) fun x =>
        if (s.group g).phase ≠ .stopped then .busy (lowestField mask fun _ => true)
        else .done ((s.setGroup g x).groupImage g) (s.setGroup g x) := by
  have hlength : (maskedImage mask [slotNat mode.code, slotNat trigger.code, period, slotBool hold] ignored).length = 4 := by
    simp [maskedImage_length]
  have hindex : (if g = .fast then 0 else 1) < Table.entries .groups := by cases g <;> decide
  have hcount : Table.groups.writableSlots ≤ s.fieldCount .groups := show 4 ≤ 7 by decide
  rw [writeGroupsAct, writeAct_of_write hoperands hcount hlength hmask hindex (by decide) (fun _ _ => rfl)]
  cases g <;> rfl

end

end Sys2Proof.Machine

open Sys2Proof Sys2Proof.Machine

/-- Settles O38: the WRITE comes to the record's fields, which decode unless hold yes is written on FAST. -/
theorem writeGroups : Obligations.WriteGroups := by
  intro g mask mode trigger period hold ignored extra hmask r hop hoperands rest s h x hx
  have hrow : r.service = .writeGroups := by
    have htable : r.table = some .groups := Request.table_of_write hoperands
    simp [Request.service, hop, htable]
  have hact := writeGroupsAct_eq hmask hoperands (s.dequeued rest)
  refine ⟨_, exec_atService rfl h hrow, fun hg hhold hbit => ?range, fun hallowed hruns => ?busy, fun hallowed hstopped => ?written⟩
  case range =>
    rw [Group.written_of_hold_fast hg hhold hbit] at hact
    exact State.afterService_refused hact
  case busy =>
    rw [Group.written_of_allowed hallowed] at hact
    exact ⟨_, State.afterService_busy (hact.trans (if_pos hruns))⟩
  case written =>
    rw [Group.written_of_allowed hallowed] at hact
    have hchanges := (s.dequeued rest).setGroup_changes g ((s.group g).picked mask mode trigger period hold)
    rw [State.afterService_done (hact.trans (if_neg (not_not.2 hstopped))), hx]
    exact ⟨State.group_setGroup g _ (s.dequeued rest), fun h hne => State.group_setGroup_of_ne hne _ (s.dequeued rest),
      Answered.place hchanges (by decide) _, hchanges.place (by decide) _⟩
end

section
namespace Sys2Proof.Machine

/-! ### The constraints of the Channel Table (R6) -/

theorem toList_eq_map_finRange {α : Type} {n : Nat} (v : Vector α n) : v.toList = (List.finRange n).map fun i => v[i] :=
  List.ext_getElem (by simp) (by simp)

/-- At most one entry of a table satisfies a test. -/
theorem atMostOne_toList_iff {α : Type} {n : Nat} (v : Vector α n) (p : α → Bool) :
    atMostOne v.toList p = true ↔ ∀ i j : Fin n, p v[i] = true → p v[j] = true → i = j := by
  have hnodup : ((List.finRange n).filter fun i => p v[i]).Nodup := (List.nodup_finRange n).filter _
  have hlength : (v.toList.filter p).length = ((List.finRange n).filter fun i => p v[i]).toFinset.card := by
    rw [List.toFinset_card_of_nodup hnodup, toList_eq_map_finRange, List.filter_map, List.length_map]
    rfl
  rw [atMostOne, decide_eq_true_iff, hlength, Finset.card_le_one]
  simp only [List.mem_toFinset, List.mem_filter, List.mem_finRange, true_and]
  exact ⟨fun h i j hi hj => h i hi j hj, fun h i hi j hj => h i j hi hj⟩

theorem all_toList_iff {α : Type} {n : Nat} (v : Vector α n) (p : α → Bool) : v.toList.all p = true ↔ ∀ i : Fin n, p v[i] = true := by
  rw [toList_eq_map_finRange, List.all_map, List.all_eq_true]
  simp

/-- The constraints of the Channel Table hold. -/
theorem channelConstraints_hold_iff (v : Vector Channel 16) :
    ((channelConstraints v.toList).filter fun c => !c.1).isEmpty = true ↔ ChannelsFit v := by
  simp only [channelConstraints, List.isEmpty_iff, List.filter_eq_nil_iff, List.forall_mem_cons, List.not_mem_nil, false_imp_iff,
    implies_true, and_true, Bool.not_eq_true, Bool.not_eq_false', atMostOne_toList_iff, all_toList_iff, beq_iff_eq, Bool.or_eq_true,
    decide_eq_true_eq]
  refine ⟨fun ⟨hyaw, hpitch, hroles, hbounds⟩ => ⟨fun i j hrole hsame => ?_, fun i => ⟨(hroles i).resolve_left, hbounds i⟩⟩,
    fun ⟨hone, heach⟩ => ⟨fun i j hi hj => hone i j (by rw [hi]; decide) (hi.trans hj.symm),
      fun i j hi hj => hone i j (by rw [hi]; decide) (hi.trans hj.symm), fun i => or_iff_not_imp_left.2 (heach i).1, fun i => (heach i).2⟩⟩
  cases h : v[i].role with
  | none => exact absurd h hrole
  | yaw => exact hyaw i j h (hsame ▸ h)
  | pitch => exact hpitch i j h (hsame ▸ h)

/-- A slot's group runs unless it is STOPPED or none (R8). -/
theorem State.groupRuns_eq_false_iff {g : GroupField} {s : State} : s.groupRuns g = false ↔ s.stoppedGroup g := by
  cases g <;> simp [State.groupRuns, State.stoppedGroup]

/-! ### A slot's record and sample state after a WRITE (R8) -/

/-- The sample state of a slot whose record is written: the latest record and the extremes are cleared when the source or the group
changes. -/
def SampleState.moved (old new : Channel) (x : SampleState) : SampleState :=
  if new.source ≠ old.source ∨ new.group ≠ old.group then
    { x with value := 0, time := 0, valid := false, min := 0, max := 0, extremesValid := false } else x

theorem SampleState.moved_of_changed {old new : Channel} (h : new.source ≠ old.source ∨ new.group ≠ old.group) (x : SampleState) :
    x.moved old new = { x with value := 0, time := 0, valid := false, min := 0, max := 0, extremesValid := false } := if_pos h

theorem SampleState.moved_of_same {old new : Channel} (hsource : new.source = old.source) (hgroup : new.group = old.group)
    (x : SampleState) : x.moved old new = x := if_neg (not_or.2 ⟨not_not.2 hsource, not_not.2 hgroup⟩)

/-- Beyond that, the run count is 0 when a judging field changes, and the alarm is no when range mode OFF is written. -/
theorem SampleState.rewritten_eq (mask : BitVec 32) (old new : Channel) (x : SampleState) :
    x.rewritten mask old new =
      { x.moved old new with
        run := if new.rangeMode ≠ old.rangeMode ∨ new.lower ≠ old.lower ∨ new.upper ≠ old.upper ∨ new.persist ≠ old.persist then 0
          else x.run
        alarm := if mask.getLsbD 6 = true ∧ new.rangeMode = .off then false else x.alarm
        sticky := x.sticky
        side := x.side } := by
  unfold SampleState.rewritten SampleState.moved
  dsimp only
  split_ifs <;> rfl

theorem State.writeChannel_changes (k : Fin 16) (mask : BitVec 32) (c : Channel) (s : State) :
    ChangesOnly [.channels, .samples] s (s.writeChannel k mask c) := by
  intro p hp
  cases p <;> simp_all [Part.same, State.writeChannel]

theorem State.writeChannel_sample_self (k : Fin 16) (mask : BitVec 32) (c : Channel) (s : State) :
    (s.writeChannel k mask c).sense.samples[k] = s.sense.samples[k].rewritten mask s.sense.channels[k] c := by
  simp [State.writeChannel]

theorem State.writeChannel_sample_of_ne {k j : Fin 16} (h : j ≠ k) (mask : BitVec 32) (c : Channel) (s : State) :
    (s.writeChannel k mask c).sense.samples[j] = s.sense.samples[j] :=
  Vector.getElem_set_ne k.isLt j.isLt fun hkj => h (Fin.ext hkj.symm)

/-! ### A WRITE of a slot's record (R6, R8) -/

/-- A slot's record as a WRITE leaves it: the masked fields are those of `w`, persist is the clamped slot (R6, R149). -/
def Channel.picked (mask : BitVec 32) (old w : Channel) (persist : Slot) : Channel :=
  ⟨pick mask 0 w.source old.source, pick mask 1 w.group old.group, pick mask 2 w.role old.role, pick mask 3 w.report old.report,
    pick mask 4 w.offset old.offset, pick mask 5 w.gain old.gain, pick mask 6 w.rangeMode old.rangeMode, pick mask 7 w.lower old.lower,
    pick mask 8 w.upper old.upper, pick mask 9 (clamped 1 255 persist) old.persist⟩

/-- The slots of a written CHANNELS image. -/
def Channel.slots (w : Channel) (persist : Slot) : List Slot :=
  [slotNat (sourceCode w.source), slotNat w.group.code, slotNat w.role.code, slotBool w.report, slotInt w.offset, slotNat w.gain,
    slotNat w.rangeMode.code, slotInt w.lower, slotInt w.upper, persist]

/-- The values of a record's structural numbers lie in their ranges (R6). -/
structure Channel.InRange (w : Channel) : Prop where
  offset : -32768 ≤ w.offset ∧ w.offset ≤ 32767
  gain : w.gain ≤ 65535
  lower : -32768 ≤ w.lower ∧ w.lower ≤ 32767
  upper : -32768 ≤ w.upper ∧ w.upper ≤ 32767

section
variable {w : Channel} {mask : BitVec 32} {persist : Slot} {ignored : List Slot} {extra : List Byte}

theorem Channel.written_of_inRange (hw : w.InRange) (old : Channel) :
    old.written mask ((maskedImage mask (w.slots persist) ignored).flatMap (fun v => le 4 v.toNat) ++ extra) =
      .ok (old.picked mask w persist) := by
  unfold Channel.written Channel.slots
  rw [maskedField_maskedImage (by simp) (fun _ => decodeSource_code w.source),
    maskedField_maskedImage (by simp) (fun _ => decodeGroupField_code w.group),
    maskedField_maskedImage (by simp) (fun _ => decodeRole_code w.role),
    maskedField_maskedImage (by simp) (fun _ => decodeBool_slotBool w.report),
    maskedField_maskedImage (by simp) (fun _ => decodeSigned16_slotInt hw.offset),
    maskedField_maskedImage (by simp) (fun _ => decodeIn_slotNat (Nat.zero_le _) hw.gain (by decide)),
    maskedField_maskedImage (by simp) (fun _ => decodeRangeMode_code w.rangeMode),
    maskedField_maskedImage (by simp) (fun _ => decodeSigned16_slotInt hw.lower),
    maskedField_maskedImage (by simp) (fun _ => decodeSigned16_slotInt hw.upper),
    maskedField_maskedImage (v := clamped 1 255 persist) (by simp) (fun _ => rfl)]
  rfl

variable {k : Fin 16} {r : Request}

/-- A WRITE of values in range comes to the constraints, then to the groups of the slot, and then to its effect (R145). -/
theorem writeChannelsAct_eq (hw : w.InRange) (hmask : mask.toNat < 2 ^ 10)
    (hoperands : r.operands = writeOperands 1 k.val mask (maskedImage mask (w.slots persist) ignored) extra) (s : State) {c : Channel}
    (hc : c = s.sense.channels[k].picked mask w persist) : writeChannelsAct r s =
      unlessConflict mask (channelConstraints (s.sense.channels.set k.val c).toList)
        (if s.groupRuns s.sense.channels[k].group then .busy (lowestField mask fun _ => true)
        else if s.groupRuns c.group then .busy (lowestField mask fun j => j == 1)
        else .done c.image (s.writeChannel k mask c)) := by
  have hlength : (maskedImage mask (w.slots persist) ignored).length = 10 := by
    rw [maskedImage_length]
    rfl
  have hcount : Table.channels.writableSlots ≤ s.fieldCount .channels := show 10 ≤ 10 by decide
  have himage : (s.writeChannel k mask c).entryImage .channels k.val = some c.image := by
    refine (dif_pos k.isLt).trans ?_
    simp [State.writeChannel]
  rw [writeChannelsAct, writeAct_of_write hoperands hcount hlength hmask k.isLt (by decide) (fun _ _ => rfl), dif_pos k.isLt]
  have hold : s.sense.channels[k.val] = s.sense.channels[k] := rfl
  simp only [hold, Channel.written_of_inRange hw, ← hc, ranged, doneWrite, himage, Fin.eta, Option.getD_some]

end

end Sys2Proof.Machine

open Sys2Proof Sys2Proof.Machine

/-- Settles O37: the WRITE comes to the constraints and the groups of the slot, and its effect on the sample state is R8's. -/
theorem writeChannels : Obligations.WriteChannels := by
  intro k mask w persist ignored extra hmask hoffset hgain hlower hupper r hop hoperands rest s h c hc
  have hrow : r.service = .writeChannels := by
    have htable : r.table = some .channels := Request.table_of_write hoperands
    simp [Request.service, hop, htable]
  have hact := writeChannelsAct_eq ⟨hoffset, hgain, hlower, hupper⟩ hmask hoperands (s.dequeued rest) hc
  have hfits : ChannelsFit (s.sense.channels.set k.val c) → writeChannelsAct r (s.dequeued rest) = _ := fun hfit =>
    hact.trans (if_pos ((channelConstraints_hold_iff _).2 hfit))
  refine ⟨_, exec_atService rfl h hrow, fun hfit hold hnew => ?written, fun hbroken => ?conflict, fun hfit hruns => ?busy⟩
  case conflict =>
    exact ⟨_, State.afterService_refused (hact.trans (if_neg fun hhold => hbroken ((channelConstraints_hold_iff _).1 hhold)))⟩
  case busy =>
    have hfit := hfits hfit
    split at hfit
    · exact ⟨_, State.afterService_busy hfit⟩
    next hold =>
      split at hfit
      · exact ⟨_, State.afterService_busy hfit⟩
      next hnew =>
        exact absurd ⟨State.groupRuns_eq_false_iff.1 (Bool.eq_false_iff.2 hold),
          State.groupRuns_eq_false_iff.1 (Bool.eq_false_iff.2 hnew)⟩ hruns
  case written =>
    have hdone := (hfits hfit).trans ((if_neg (Bool.eq_false_iff.1 (State.groupRuns_eq_false_iff.2 hold))).trans
      (if_neg (Bool.eq_false_iff.1 (State.groupRuns_eq_false_iff.2 hnew))))
    have hchanges := (s.dequeued rest).writeChannel_changes k mask c
    have hself := ((s.dequeued rest).writeChannel_sample_self k mask c).trans (SampleState.rewritten_eq _ _ _ _)
    rw [State.afterService_done hdone]
    simp only [State.placeAnswer_sense]
    refine ⟨rfl, Answered.place hchanges (by decide) _, hchanges.place (by decide) _,
      fun j hne => State.writeChannel_sample_of_ne hne mask c (s.dequeued rest), ?_⟩
    rw [hself]
    refine ⟨rfl, rfl, fun hmoved => ?_, fun hsource hgroup => ?_, rfl, rfl⟩
    · have hcleared := SampleState.moved_of_changed hmoved s.sense.samples[k]
      exact ⟨congrArg (·.valid) hcleared, congrArg (·.extremesValid) hcleared⟩
    · have hkept := SampleState.moved_of_same hsource hgroup s.sense.samples[k]
      exact ⟨congrArg (·.value) hkept, congrArg (·.time) hkept, congrArg (·.valid) hkept, congrArg (·.min) hkept,
        congrArg (·.max) hkept, congrArg (·.extremesValid) hkept⟩
end

section
namespace Sys2Proof.Machine

/-! ### Rounding (spec/00, Arithmetic) -/

theorem roundDiv_of_nonneg {n : Int} (h : 0 ≤ n) (d : Nat) : roundDiv n d = (2 * n + d) / (2 * d) := if_pos h

theorem roundDiv_of_neg {n : Int} (h : n < 0) (d : Nat) : roundDiv n d = -roundDiv (-n) d := by
  rw [roundDiv, if_neg (not_le.2 h), roundDiv_of_nonneg (by omega)]

/-- A quotient that is not negative is rounded to within half, and up at a tie. -/
theorem roundDiv_bounds_of_nonneg {n : Int} (h : 0 ≤ n) {d : Nat} (hd : 0 < d) :
    -(d : Int) < 2 * (d * roundDiv n d) - 2 * n ∧ 2 * (d * roundDiv n d) - 2 * n ≤ d := by
  have hd' : (0 : Int) < 2 * d := by omega
  have hle := Int.mul_ediv_self_le (x := 2 * n + d) hd'.ne'
  have hlt := Int.lt_mul_ediv_self_add (x := 2 * n + d) hd'
  rw [← roundDiv_of_nonneg h, mul_assoc] at hle hlt
  omega

theorem roundDiv_nearest (n : Int) {d : Nat} (hd : 0 < d) :
    2 * |d * roundDiv n d - n| ≤ d ∧ (2 * |d * roundDiv n d - n| = d → |n| < |d * roundDiv n d|) := by
  rcases lt_or_ge n 0 with hn | hn
  · have hbounds := roundDiv_bounds_of_nonneg (n := -n) (by omega) hd
    rw [roundDiv_of_neg hn, mul_neg]
    generalize (d : Int) * roundDiv (-n) d = x at *
    simp only [Int.abs_eq_natAbs]
    omega
  · have hbounds := roundDiv_bounds_of_nonneg hn hd
    generalize (d : Int) * roundDiv n d = x at *
    simp only [Int.abs_eq_natAbs]
    omega

theorem roundDiv_zero {d : Nat} (hd : 0 < d) : roundDiv 0 d = 0 := by
  rw [roundDiv_of_nonneg le_rfl]
  exact Int.ediv_eq_zero_of_lt (by omega) (by omega)

theorem Channel.correct_of_gain_zero {c : Channel} (h : c.gain = 0) (raw : Int) : c.correct raw = 0 := by
  rw [Channel.correct, h, Nat.cast_zero, mul_zero, roundDiv_zero (by decide)]
  rfl

end Sys2Proof.Machine

open Sys2Proof Sys2Proof.Machine

/-- Settles O14: a quotient that is not negative lies within half of its rounding, a negative one is rounded as its opposite, and the
scalings are made of the rounding. -/
theorem roundingAndScaling : Obligations.RoundingAndScaling :=
  ⟨fun n _ hd => roundDiv_nearest n hd, fun _ _ => rfl, fun _ raw h => Channel.correct_of_gain_zero h raw, fun _ _ => rfl,
    fun _ _ _ => rfl⟩
end

section
namespace Sys2Proof.Machine

/-! ### Power-on values (R7, R43, R67, R99, R103) -/

theorem State.powerOnReset_panel (e : Eye) (s : State) : s.powerOnReset.panel e = Panel.default := by
  cases e <;> rfl

theorem State.powerOnReset_playout (k : Sink) (s : State) : s.powerOnReset.playout k = Playout.emptied := by
  cases k <;> rfl

theorem State.powerOnReset_stream (i : Fin 32) (s : State) : s.powerOnReset.streams[i] = defaultStream i := Vector.getElem_ofFn i.isLt

theorem State.powerOnReset_slot (i : Fin 3) (s : State) : s.powerOnReset.frames.slots[i] = FrameSlot.emptied :=
  Vector.getElem_replicate i.isLt

theorem State.powerOnReset_sample (k : Fin 16) (s : State) : s.powerOnReset.sense.samples[k] = SampleState.cleared :=
  Vector.getElem_replicate k.isLt

theorem State.powerOnReset_channel (k : Fin 16) (s : State) : s.powerOnReset.sense.channels[k] = defaultChannel k :=
  Vector.getElem_ofFn k.isLt

end Sys2Proof.Machine

open Sys2Proof Sys2Proof.Machine

/-- Settles O15: register by register; the tables entry by entry. -/
theorem powerOnResetState : Obligations.PowerOnResetState := by
  intro s
  refine ⟨s.powerOnReset, rfl, rfl, rfl, rfl, rfl, rfl, rfl, s.powerOnReset_stream, s.powerOnReset_slot, rfl, rfl, rfl,
    s.powerOnReset_panel, rfl, rfl, rfl, rfl, s.powerOnReset_sample, fun k => ?channels, rfl, rfl, rfl, rfl, rfl, rfl, rfl, rfl,
    s.powerOnReset_playout, rfl, rfl, rfl, rfl, rfl, rfl, rfl, rfl, fun i => ?stances, rfl, rfl, fun i => ?rules, rfl, rfl, rfl, rfl, rfl, rfl,
    rfl, rfl, rfl⟩
  case channels =>
    rw [s.powerOnReset_channel]
    fin_cases k <;> rfl
  case stances => fin_cases i <;> rfl
  case rules => fin_cases i <;> rfl
end

section
namespace Sys2Proof.Machine

/-! ### The pose history as passes are appended to it (R35, R37, R38) -/

/-- Two times within a second of a newest time keep their order when they are measured from a later time, if both still lie within a second
of it: a distance that wraps is far longer than that. -/
theorem distance_le_of_within {a b n e : Time} (ha : distance a n ≤ 1000000) (hab : distance b n ≤ distance a n)
    (hae : distance a e ≤ 1000000) (hbe : distance b e ≤ 1000000) : distance b e ≤ distance a e := by
  simp only [distance, BitVec.toNat_sub] at *
  omega

@[simp] theorem distance_self (t : Time) : distance t t = 0 := by
  simp [distance]

/-- An appended entry stands last, behind entries of the history that lie within a second of it. -/
theorem appendPose_spec {h : List PoseEntry} (hlen : h.length ≤ 64) (e : PoseEntry) :
    ∃ kept : List PoseEntry, appendPose h e = kept ++ [e] ∧ kept.Sublist h ∧ kept.length ≤ 63 ∧
      ∀ x ∈ kept, distance x.time e.time ≤ 1000000 := by
  unfold appendPose
  dsimp only
  refine ⟨_, rfl, ?_, (List.length_filter_le _ _).trans ?_, fun x hx => of_decide_eq_true (List.mem_filter.1 hx).2⟩
  · split
    · exact List.filter_sublist.trans (List.tail_sublist h)
    · exact List.filter_sublist
  · split
    · rw [List.length_tail]
      omega
    · omega

/-- What the law asks of a history with newest time `n`. -/
def NotAfter (n : Time) (h : List PoseEntry) : Prop :=
  (∀ x ∈ h, distance x.time n ≤ 1000000) ∧ h.Pairwise fun a b => distance b.time n ≤ distance a.time n

/-- A history that keeps the law keeps it with an entry appended (R38). -/
theorem NotAfter.appendPose {n : Time} {h : List PoseEntry} (hn : NotAfter n h) (hlen : h.length ≤ 64) (e : PoseEntry) :
    NotAfter e.time (appendPose h e) := by
  obtain ⟨hwithin, hordered⟩ := hn
  obtain ⟨kept, heq, hsub, -, hkept⟩ := appendPose_spec hlen e
  have hordered' : kept.Pairwise fun a b => distance b.time e.time ≤ distance a.time e.time :=
    (hordered.sublist hsub).imp_of_mem fun ha hb hab =>
      distance_le_of_within (hwithin _ (hsub.subset ha)) hab (hkept _ ha) (hkept _ hb)
  rw [heq]
  refine ⟨fun x hx => ?_, List.pairwise_append.2 ⟨hordered', List.pairwise_singleton _ _, fun a _ b hb => ?_⟩⟩
  · rcases List.mem_append.1 hx with hx | hx
    · exact hkept x hx
    · simp [List.mem_singleton.1 hx]
  · simp [List.mem_singleton.1 hb]

theorem PoseLaw.of_pose_eq {s t : State} (h : PoseLaw s) (hst : t.pose = s.pose) : PoseLaw t := by
  unfold PoseLaw at *
  rwa [hst]

/-- A history without entries keeps the law when no pass was handed on before (R34, R37). -/
theorem poseLaw_of_empty {s : State} (hhistory : s.pose.history = []) (hprev : s.pose.prev = none) : PoseLaw s := by
  simp [PoseLaw, hhistory, hprev]

/-- The history of a state that keeps the law, measured from its newest entry. -/
theorem PoseLaw.notAfter {s : State} (h : PoseLaw s) : ∃ n, NotAfter n s.pose.history := by
  obtain ⟨-, hnewest⟩ := h
  cases hlast : s.pose.history.getLast? with
  | none => exact ⟨0, by simp [List.getLast?_eq_none_iff.1 hlast, NotAfter]⟩
  | some n =>
    rw [hlast] at hnewest
    obtain ⟨-, hwithin, hordered⟩ := hnewest
    exact ⟨n.time, hwithin, hordered⟩

theorem PoseLaw.integratePass {s : State} (h : PoseLaw s) (start : Time) (yaw pitch : Option Int) :
    PoseLaw (s.integratePass start yaw pitch) := by
  obtain ⟨n, hn⟩ := h.notAfter
  have ⟨hlen, _⟩ := h
  unfold State.integratePass
  split
  · exact h
  · dsimp only
    generalize hentry : (⟨start, _, _⟩ : PoseEntry) = e
    have htime : e.time = start := by rw [← hentry]
    obtain ⟨hwithin, hordered⟩ := hn.appendPose hlen e
    obtain ⟨kept, heq, -, hkept, -⟩ := appendPose_spec hlen e
    refine PoseLaw.of_pose_eq (s := { s with pose := ⟨_, _, some start, appendPose s.pose.history e⟩ }) ⟨?_, ?_⟩
      (State.raiseIf_pose _ _ _)
    · simp only [heq, List.length_append, List.length_singleton]
      omega
    · have hlast : (appendPose s.pose.history e).getLast? = some e := by rw [heq, List.getLast?_concat]
      simp only [hlast, htime]
      exact ⟨trivial, htime ▸ hwithin, htime ▸ hordered⟩
end Sys2Proof.Machine
end

section
namespace Sys2Proof.Machine

/-! ### What the part holds in its queues and its pose history (R26, R27, R38, R82, R95, R96, R142, R143, R153) -/

/-- The Sample Queue keeps its capacity and its gap count its range; a filling finds it full (R26, R27). -/
def SamplesFit (r : Report) : Prop :=
  r.queue.length ≤ sampleCapacity ∧ r.gap ≤ 65535 ∧ (r.filling = true → r.queue.length = sampleCapacity)

/-- Both playout queues keep their capacity (R82). -/
def PlayoutsFit (x : Sound) : Prop := x.queueA.pairs.length ≤ playoutCapacity ∧ x.queueB.pairs.length ≤ playoutCapacity

/-- The Capture Queue keeps its capacity and its gap count its range; a filling finds it full; and while capture is not `active` it holds
whole blocks (R95, R96). -/
def CaptureFits (active : Bool) (x : Sound) : Prop :=
  x.capture.length ≤ captureCapacity ∧ x.captureGap ≤ 65535 ∧ (x.captureFilling = true → x.capture.length = captureCapacity) ∧
  (active = false → x.capture.length % voiceBlock = 0)

/-- The request queue keeps its capacity, the answer queue has room for `owed` answers more, and a stance answer is pending only while the
stance is `ramping` (R142, R143, R153). -/
def AnswersFit (owed : Nat) (ramping : Bool) (m : Mgmt) : Prop :=
  m.requests.length ≤ queueDepth ∧ m.fill + owed ≤ queueDepth ∧ (m.deferred.isSome → ramping = true)

/-- The laws of the queues and of the pose history, as they stand within a command: `owed` answers are yet to be placed by the service in
hand, capture was `active` before the stop that may follow, and the stance was `ramping` before it settles. -/
structure HeldLaw (owed : Nat) (active ramping : Bool) (s : State) : Prop where
  pose : PoseLaw s
  samples : SamplesFit s.report
  playouts : PlayoutsFit s.sound
  capture : CaptureFits active s.sound
  answers : AnswersFit owed ramping s.mgmt

/-- The laws of the queues and of the pose history, capture and the stance being as the state has them. -/
def StoredLaw (owed : Nat) (s : State) : Prop := HeldLaw owed s.captureActive s.power.ramp.isSome s

/-- Between commands these are the law of the queues and the law of the pose history. -/
theorem storedLaw_iff {s : State} : StoredLaw 0 s ↔ QueueLaw s ∧ PoseLaw s := by
  constructor
  · rintro ⟨hpose, ⟨hqueue, hgap, hfilling⟩, ⟨hA, hB⟩, ⟨hcapture, hlost, hfull, hblocks⟩, hrequests, hfill, hdeferred⟩
    exact ⟨⟨hqueue, hgap, hfilling, hA, hB, hcapture, hlost, hfull, hblocks, hrequests, hfill, hdeferred⟩, hpose⟩
  · rintro ⟨⟨hqueue, hgap, hfilling, hA, hB, hcapture, hlost, hfull, hblocks, hrequests, hfill, hdeferred⟩, hpose⟩
    exact ⟨hpose, ⟨hqueue, hgap, hfilling⟩, ⟨hA, hB⟩, ⟨hcapture, hlost, hfull, hblocks⟩, hrequests, hfill, hdeferred⟩

/-! The Sample Queue. -/

theorem gapAdd_le (gap n : Nat) : gapAdd gap n ≤ 65535 := Nat.min_le_left _ _

/-- A report whose queue is not full and whose filling is over. -/
theorem SamplesFit.of_not_filling {r : Report} (hqueue : r.queue.length ≤ sampleCapacity) (hgap : r.gap ≤ 65535)
    (hfilling : r.filling = false) : SamplesFit r := ⟨hqueue, hgap, by simp [hfilling]⟩

theorem SamplesFit.offerSample {s : State} (h : SamplesFit s.report) (e : SampleEntry) : SamplesFit (s.offerSample e).report := by
  obtain ⟨hqueue, hgap, hfilling⟩ := h
  rcases Nat.lt_or_ge s.report.queue.length 512 with hroom | hfull
  · rw [State.offerSample_of_room hroom]
    have hnot : s.report.filling = false := Bool.eq_false_iff.2 fun hf => Nat.ne_of_lt hroom (hfilling hf)
    exact .of_not_filling (by simpa [sampleCapacity] using hroom) hgap hnot
  · rw [State.offerSample_of_full hfull, State.raiseIf_report]
    exact ⟨hqueue, gapAdd_le _ _, fun _ => hqueue.antisymm hfull⟩

theorem length_takeWindow_le (base : Time) (room : Nat) (q : List SampleEntry) : (takeWindow base room q).2.length ≤ q.length := by
  induction room generalizing q with
  | zero => simp [takeWindow]
  | succ room ih =>
    cases q with
    | nil => simp [takeWindow]
    | cons e q =>
      unfold takeWindow
      split
      · exact (ih q).trans (by simp)
      · exact le_rfl

theorem SamplesFit.buildMotion {s t : State} {c : UpCell} (h : SamplesFit s.report) (ht : s.buildMotion = some (c, t)) :
    SamplesFit t.report := by
  obtain ⟨hqueue, -, -⟩ := h
  unfold State.buildMotion at ht
  dsimp only at ht
  split at ht
  · cases ht
  · obtain ⟨-, rfl⟩ := by simpa using ht
    exact .of_not_filling ((length_takeWindow_le _ _ _).trans hqueue) (Nat.zero_le _) rfl

/-! The playout queues. -/

theorem Playout.startIfPrimed_pairs (start : Nat) (q : Playout) : (q.startIfPrimed start).pairs = q.pairs := by
  unfold Playout.startIfPrimed
  split <;> rfl

theorem Playout.append_pairs (start : Nat) (p : SoundPair) (q : Playout) : (q.append start p).pairs = q.pairs ++ [p] :=
  Playout.startIfPrimed_pairs _ _

theorem Playout.appendAll_length_le (start : Nat) (ps : List SoundPair) {q : Playout} (h : q.pairs.length ≤ playoutCapacity) :
    (Playout.appendAll start ps q).2.pairs.length ≤ playoutCapacity := by
  induction ps generalizing q with
  | nil => exact h
  | cons p ps ih =>
    unfold Playout.appendAll
    split
    next hroom => exact ih (by simpa [Playout.append_pairs] using hroom)
    next => exact h

theorem Playout.tick_length_le (q : Playout) : q.tick.1.pairs.length ≤ q.pairs.length := by
  unfold Playout.tick
  split
  · exact le_rfl
  · split
    next hq => simp [hq]
    next p ps hq =>
      rw [hq]
      dsimp only
      split <;> simp
  · split <;> exact le_rfl

theorem Playout.slip_length_le (low high : Nat) (q : Playout) : (q.slip low high).pairs.length ≤ q.pairs.length := by
  unfold Playout.slip
  split
  · exact le_rfl
  · split
    · simp
    · split <;> exact le_rfl

theorem PlayoutsFit.takeSound {s : State} (h : PlayoutsFit s.sound) (k : Sink) (pairs : List SoundPair) :
    PlayoutsFit (s.takeSound k pairs).2.sound := by
  have ⟨hA, hB⟩ := h
  unfold State.takeSound
  split
  · exact h
  · simp only [State.raiseIf_sound]
    cases k
    · exact ⟨Playout.appendAll_length_le _ _ hA, hB⟩
    · exact ⟨hA, Playout.appendAll_length_le _ _ hB⟩

theorem PlayoutsFit.outputTick {s : State} (h : PlayoutsFit s.sound) : PlayoutsFit s.outputTick.sound := by
  obtain ⟨hA, hB⟩ := h
  unfold State.outputTick
  simp only [State.raiseIf_sound]
  exact ⟨(Playout.tick_length_le _).trans hA, (Playout.tick_length_le _).trans hB⟩

theorem PlayoutsFit.slipCheck {s : State} (h : PlayoutsFit s.sound) : PlayoutsFit s.slipCheck.sound := by
  obtain ⟨hA, hB⟩ := h
  exact ⟨(Playout.slip_length_le _ _ _).trans hA, (Playout.slip_length_le _ _ _).trans hB⟩

theorem PlayoutsFit.startPrimed {s : State} (h : PlayoutsFit s.sound) : PlayoutsFit s.startPrimed.sound := by
  obtain ⟨hA, hB⟩ := h
  exact ⟨(congrArg List.length (Playout.startIfPrimed_pairs _ _)).trans_le hA,
    (congrArg List.length (Playout.startIfPrimed_pairs _ _)).trans_le hB⟩

theorem PlayoutsFit.emptyIfBarred {s : State} (h : PlayoutsFit s.sound) : PlayoutsFit s.emptyIfBarred.sound := by
  unfold State.emptyIfBarred
  split
  · exact ⟨Nat.zero_le _, Nat.zero_le _⟩
  · exact h

/-! The Capture Queue. -/

theorem CaptureFits.of_active {active : Bool} {x : Sound} (h : CaptureFits active x) : CaptureFits true x := by
  obtain ⟨hcapture, hgap, hfull, -⟩ := h
  exact ⟨hcapture, hgap, hfull, fun h => by cases h⟩

/-- A queue of whole blocks that is not full fits, whatever capture does. -/
theorem CaptureFits.of_blocks {x : Sound} (hcapture : x.capture.length ≤ captureCapacity) (hgap : x.captureGap ≤ 65535)
    (hfilling : x.captureFilling = false) (hblocks : x.capture.length % voiceBlock = 0) (active : Bool) : CaptureFits active x :=
  ⟨hcapture, hgap, by simp [hfilling], fun _ => hblocks⟩

theorem CaptureFits.offerCapture {s : State} (h : CaptureFits true s.sound) (e : CaptureEntry) :
    CaptureFits true (s.offerCapture e).sound := by
  obtain ⟨hcapture, hgap, hfull, -⟩ := h
  unfold State.offerCapture
  split
  next hroom =>
    have hnot : s.sound.captureFilling = false := Bool.eq_false_iff.2 fun hf => Nat.ne_of_lt hroom (hfull hf)
    exact ⟨by simpa using hroom, hgap, by simp [hnot], fun h => by cases h⟩
  next hroom =>
    rw [State.raiseIf_sound]
    exact ⟨hcapture, gapAdd_le _ _, fun _ => hcapture.antisymm (not_lt.1 hroom), fun h => by cases h⟩

/-- A stop leaves whole blocks (R96). A full queue does not hold whole blocks alone, 1024 being no multiple of 240, so no filling outlasts
the stop. -/
theorem CaptureFits.stopCapture {active : Bool} {s : State} (h : CaptureFits active s.sound) (active' : Bool) :
    CaptureFits active' s.stopCapture.sound := by
  obtain ⟨hcapture, -, -, -⟩ := h
  have hkept : s.stopCapture.sound.capture.length =
      s.sound.capture.length - s.sound.capture.length % voiceBlock := by
    simp [State.stopCapture]
  simp only [captureCapacity] at hcapture
  refine .of_blocks (by rw [hkept, captureCapacity]; omega) (gapAdd_le _ _) ?_ (by rw [hkept, voiceBlock]; omega) active'
  have : ¬ captureCapacity ≤ s.sound.capture.length - s.sound.capture.length % voiceBlock := by
    simp only [captureCapacity, voiceBlock]
    omega
  simp [State.stopCapture, this]

/-- Capture that was active before a command stops if it is not afterwards, and the queue is as the state then asks (R96). -/
theorem CaptureFits.stopCaptureIfEnded {active : Bool} {s : State} (h : CaptureFits active s.sound) :
    CaptureFits s.captureActive (s.stopCaptureIfEnded active).sound := by
  unfold State.stopCaptureIfEnded
  split
  · exact h.stopCapture _
  next hended =>
    cases hnow : s.captureActive
    · have : active = false := by simpa [hnow] using hended
      exact this ▸ h
    · exact h.of_active

theorem CaptureFits.buildVoice {active : Bool} {s t : State} {c : UpCell} (h : CaptureFits active s.sound)
    (ht : s.buildVoice = some (c, t)) : CaptureFits active t.sound := by
  obtain ⟨hcapture, -, -, hblocks⟩ := h
  unfold State.buildVoice at ht
  split at ht
  · cases ht
  · split at ht
    next hready =>
      obtain ⟨-, rfl⟩ := by simpa using ht
      have hready : voiceBlock ≤ s.sound.capture.length := of_decide_eq_true hready
      refine ⟨?_, Nat.zero_le _, by simp, fun hactive => ?_⟩
      · exact (List.drop_sublist _ _).length_le.trans hcapture
      · rw [List.length_drop, ← Nat.mod_eq_sub_mod hready]
        exact hblocks hactive
    · cases ht

/-! The request queue and the answer queue. -/

theorem Mgmt.fill_of_deferred {m : Mgmt} (h : m.deferred.isSome) : m.fill = m.answers.length + 1 := by
  rw [Mgmt.fill, if_pos h]

theorem Mgmt.length_answers_le_fill (m : Mgmt) : m.answers.length ≤ m.fill := Nat.le_add_right _ _

theorem AnswersFit.mono {owed owed' : Nat} {ramping ramping' : Bool} {m : Mgmt} (h : AnswersFit owed ramping m) (howed : owed' ≤ owed)
    (hramping : ramping = true → ramping' = true) : AnswersFit owed' ramping' m := by
  obtain ⟨hrequests, hfill, hdeferred⟩ := h
  exact ⟨hrequests, (Nat.add_le_add_left howed _).trans hfill, fun h => hramping (hdeferred h)⟩

/-- The oldest request leaves at its service, for which the answer queue has room (R144). -/
theorem AnswersFit.dequeue {ramping : Bool} {m : Mgmt} {r : Request} {rest : List Request} (h : AnswersFit 0 ramping m)
    (hrequests : m.requests = r :: rest) (hroom : m.fill < queueDepth) : AnswersFit 1 ramping { m with requests := rest } := by
  obtain ⟨hlength, -, hdeferred⟩ := h
  rw [hrequests, List.length_cons] at hlength
  exact ⟨(Nat.le_succ _).trans hlength, hroom, hdeferred⟩

/-- An answer that is owed is placed (R143). -/
theorem AnswersFit.place {owed : Nat} {ramping : Bool} {m : Mgmt} (h : AnswersFit (owed + 1) ramping m) (a : Answer) :
    AnswersFit owed ramping { m with answers := m.answers ++ [a] } := by
  obtain ⟨hrequests, hfill, hdeferred⟩ := h
  refine ⟨hrequests, ?_, hdeferred⟩
  simp only [Mgmt.fill, List.length_append, List.length_singleton] at *
  omega

/-- An order that starts a ramp is answered later: its answer takes the reservation (R153). -/
theorem AnswersFit.defer {owed : Nat} {ramping : Bool} {m : Mgmt} (h : AnswersFit (owed + 1) ramping m) (d : Deferred) :
    AnswersFit owed true { m with deferred := some d } := by
  obtain ⟨hrequests, hfill, -⟩ := h
  refine ⟨hrequests, ?_, fun _ => rfl⟩
  have := m.length_answers_le_fill
  rw [Mgmt.fill_of_deferred rfl]
  dsimp only
  omega

/-- A stance that settles places the pending answer, which had its room reserved (R143, R153). -/
theorem AnswersFit.settleAnswer {owed : Nat} {ramping : Bool} {s : State} (h : AnswersFit owed ramping s.mgmt) (ramping' : Bool) :
    AnswersFit owed ramping' s.settleAnswer.mgmt := by
  obtain ⟨hrequests, hfill, -⟩ := h
  unfold State.settleAnswer
  split
  next hnone => exact ⟨hrequests, hfill, by simp [hnone]⟩
  next d hd =>
    refine ⟨hrequests, ?_, fun h => by cases h⟩
    rw [Mgmt.fill_of_deferred (by rw [hd]; rfl)] at hfill
    simpa [Mgmt.fill] using hfill

theorem AnswersFit.buildAnswer {owed : Nat} {ramping : Bool} {s t : State} {c : UpCell} (h : AnswersFit owed ramping s.mgmt)
    (ht : s.buildAnswer = some (c, t)) : AnswersFit owed ramping t.mgmt := by
  obtain ⟨hrequests, hfill, hdeferred⟩ := h
  unfold State.buildAnswer at ht
  split at ht
  · cases ht
  next a rest hanswers =>
    obtain ⟨-, rfl⟩ := by simpa using ht
    refine ⟨hrequests, ?_, hdeferred⟩
    simp only [Mgmt.fill, hanswers, List.length_cons] at *
    omega

theorem AnswersFit.takeAsk {owed : Nat} {ramping : Bool} {s : State} (h : AnswersFit owed ramping s.mgmt) (r : Request) :
    AnswersFit owed ramping (s.takeAsk r).2.mgmt := by
  have ⟨_, hfill, hdeferred⟩ := h
  unfold State.takeAsk
  split
  next hroom => exact ⟨by simpa using hroom, hfill, hdeferred⟩
  next => exact h

end Sys2Proof.Machine
end

section
namespace Sys2Proof.Machine

/-! ### The operations of the blocks keep what they hold -/

/-- The parts that the laws of the queues and of the pose history speak of. -/
def heldParts : List Part := [.sampleQueue, .pose, .queueA, .queueB, .capture, .requests, .answers, .deferred]

section
variable {owed : Nat} {active ramping : Bool} {s t : State} {P : List Part}

theorem SamplesFit.of_changes (h : SamplesFit s.report) (hst : ChangesOnly P s t) (hP : Part.sampleQueue ∉ P) : SamplesFit t.report := by
  obtain ⟨hqueue, hgap, hfilling, -⟩ := hst _ hP
  rwa [SamplesFit, hqueue, hgap, hfilling]

theorem PlayoutsFit.of_changes (h : PlayoutsFit s.sound) (hst : ChangesOnly P s t) (hP : Part.queueA ∉ P ∧ Part.queueB ∉ P) :
    PlayoutsFit t.sound := by
  have hA : t.sound.queueA = s.sound.queueA := hst _ hP.1
  have hB : t.sound.queueB = s.sound.queueB := hst _ hP.2
  rwa [PlayoutsFit, hA, hB]

theorem CaptureFits.of_changes (h : CaptureFits active s.sound) (hst : ChangesOnly P s t) (hP : Part.capture ∉ P) :
    CaptureFits active t.sound := by
  obtain ⟨hcapture, hgap, hfilling⟩ := hst _ hP
  rwa [CaptureFits, hcapture, hgap, hfilling]

theorem AnswersFit.of_changes (h : AnswersFit owed ramping s.mgmt) (hst : ChangesOnly P s t)
    (hP : ∀ p ∈ [Part.requests, .answers, .deferred], p ∉ P) : AnswersFit owed ramping t.mgmt := by
  have hrequests : t.mgmt.requests = s.mgmt.requests := hst .requests (hP _ (by decide))
  have hanswers : t.mgmt.answers = s.mgmt.answers := hst .answers (hP _ (by decide))
  have hdeferred : t.mgmt.deferred = s.mgmt.deferred := hst .deferred (hP _ (by decide))
  rwa [AnswersFit, Mgmt.fill, hrequests, hanswers, hdeferred]

/-- A change keeps the laws when it names none of a block's parts, or keeps the block's own law. -/
theorem HeldLaw.update (h : HeldLaw owed active ramping s) (hst : ChangesOnly P s t)
    (pose : Part.pose ∉ P ∨ PoseLaw t := by exact .inl (by decide))
    (samples : Part.sampleQueue ∉ P ∨ SamplesFit t.report := by exact .inl (by decide))
    (playouts : (Part.queueA ∉ P ∧ Part.queueB ∉ P) ∨ PlayoutsFit t.sound := by exact .inl (by decide))
    (capture : Part.capture ∉ P ∨ CaptureFits active t.sound := by exact .inl (by decide))
    (answers : (∀ p ∈ [Part.requests, .answers, .deferred], p ∉ P) ∨ AnswersFit owed ramping t.mgmt := by exact .inl (by decide)) :
    HeldLaw owed active ramping t where
  pose := pose.elim (fun hP => h.pose.of_pose_eq (hst.pose_eq hP)) id
  samples := samples.elim (h.samples.of_changes hst) id
  playouts := playouts.elim (h.playouts.of_changes hst) id
  capture := capture.elim (h.capture.of_changes hst) id
  answers := answers.elim (h.answers.of_changes hst) id

/-- A change of other parts keeps the laws. -/
theorem HeldLaw.of_changes (h : HeldLaw owed active ramping s) (hst : ChangesOnly P s t) (hP : ∀ p ∈ heldParts, p ∉ P) :
    HeldLaw owed active ramping t :=
  h.update hst (.inl (hP _ (by decide))) (.inl (hP _ (by decide))) (.inl ⟨hP _ (by decide), hP _ (by decide)⟩) (.inl (hP _ (by decide)))
    (.inl fun p hp => hP p (by revert p; decide))

/-! The Sense Engine, the Report Assembler and the Pose Integrator. -/

theorem HeldLaw.takeSamples (h : HeldLaw owed active ramping s) (es : List SampleEntry) :
    HeldLaw owed active ramping (s.takeSamples es) := by
  induction es generalizing s with
  | nil => exact h
  | cons e es ih =>
    refine ih (h.update (s.takeSample_changes e) (samples := .inr ?_))
    rw [State.takeSample_report]
    split
    · exact h.samples.offerSample e
    · exact h.samples

theorem HeldLaw.passComplete (h : HeldLaw owed active ramping s) (g : ScanGroup) (p : Pass) :
    HeldLaw owed active ramping (s.passComplete g p) := by
  refine h.update (s.passComplete_changes_only g p) (pose := .inr ?_)
  have hcompleted := h.pose.of_pose_eq (State.setGroup_pose g (s.group g).completed s)
  cases g
  · exact hcompleted.integratePass _ _ _
  · rw [State.passComplete_slow]
    split
    · exact hcompleted.of_pose_eq ((State.refillSnapshot_changes _ _).pose_eq (by decide))
    · exact hcompleted

theorem HeldLaw.setGroup (h : HeldLaw owed active ramping s) (g : ScanGroup) (x : Group) : HeldLaw owed active ramping (s.setGroup g x) :=
  h.of_changes (s.setGroup_changes g x) (by decide)

theorem HeldLaw.standAt (h : HeldLaw owed active ramping s) (g : ScanGroup) (p : Pass) (stepped : Bool) (rest : List (Fin 16)) :
    HeldLaw owed active ramping (s.standAt g p stepped rest) := by
  rw [State.standAt]
  split
  · exact h.passComplete g p
  · exact h.setGroup g _

theorem HeldLaw.walk (h : HeldLaw owed active ramping s) (g : ScanGroup) (p : Pass) (todo : List (Fin 16)) :
    HeldLaw owed active ramping (s.walk g p todo) := by
  rw [State.walk_eq]
  exact (h.takeSamples _).standAt _ _ _ _

theorem HeldLaw.arbitrate (h : HeldLaw owed active ramping s) : HeldLaw owed active ramping s.arbitrate :=
  h.of_changes s.arbitrate_changes (by decide)

theorem HeldLaw.trigger (h : HeldLaw owed active ramping s) (g : ScanGroup) : HeldLaw owed active ramping (s.trigger g) := by
  unfold State.trigger
  dsimp only
  split
  · exact h
  · exact h.of_changes (s.raise_changes _) (by decide)
  · exact h.of_changes (s.raise_changes _) (by decide)
  · split
    · exact h.walk _ _ _
    · split
      · exact h.setGroup _ _
      · exact h.walk _ _ _

theorem HeldLaw.latchTriggers (h : HeldLaw owed active ramping s) : HeldLaw owed active ramping s.latchTriggers := by
  have one : ∀ (g : ScanGroup) (u : State), HeldLaw owed active ramping u → HeldLaw owed active ramping (u.latchTrigger g) := by
    intro g u hu
    unfold State.latchTrigger
    split
    · exact hu.trigger g
    · exact hu
  rw [State.latchTriggers_eq]
  exact (one .slow _ (one .fast s h)).arbitrate

theorem HeldLaw.timerTrigger (h : HeldLaw owed active ramping s) (g : ScanGroup) : HeldLaw owed active ramping (s.timerTrigger g) :=
  ((h.setGroup g _).trigger g).arbitrate

theorem HeldLaw.burstDone (h : HeldLaw owed active ramping s) (raw : SixAxes) : HeldLaw owed active ramping (s.burstDone raw) := by
  have hfree : HeldLaw owed active ramping s.freePort := h.of_changes s.freePort_changes (by decide)
  unfold State.burstDone
  split
  · exact h
  · dsimp only
    split
    · exact hfree.arbitrate
    · exact (hfree.walk _ _ _).arbitrate

theorem HeldLaw.conversionDone (h : HeldLaw owed active ramping s) (raw : BitVec 12) :
    HeldLaw owed active ramping (s.conversionDone raw) := by
  have hfree : HeldLaw owed active ramping s.freeConverter := h.of_changes s.freeConverter_changes (by decide)
  unfold State.conversionDone
  split
  · exact h
  · dsimp only
    split
    · exact hfree.arbitrate
    · split
      · exact hfree.arbitrate
      · rw [State.sampleComplete_eq, State.walkOn_eq _ _ _ _ rfl]
        exact (((hfree.takeSamples [_]).takeSamples _).standAt _ _ _ _).arbitrate

theorem HeldLaw.takeSnapshot (h : HeldLaw owed active ramping s) : HeldLaw owed active ramping s.takeSnapshot := by
  have hmarked : HeldLaw owed active ramping s.markTaken := h.of_changes s.markTaken_changes (by decide)
  unfold State.takeSnapshot
  split
  · exact h
  · dsimp only
    split
    · exact (hmarked.walk _ _ _).arbitrate
    · exact hmarked

theorem HeldLaw.clearHistory (h : HeldLaw owed active ramping s) : HeldLaw owed active ramping s.clearHistory :=
  h.update s.clearHistory_changes (pose := .inr (poseLaw_of_empty rfl rfl))

theorem HeldLaw.stopGroup (h : HeldLaw owed active ramping s) (g : ScanGroup) : HeldLaw owed active ramping (s.stopGroup g) :=
  h.of_changes (s.stopGroup_changes g) (by decide)

theorem HeldLaw.startGroup (h : HeldLaw owed active ramping s) (g : ScanGroup) : HeldLaw owed active ramping (s.startGroup g) := by
  unfold State.startGroup
  split
  · dsimp only
    split
    · exact (h.setGroup _ _).clearHistory
    · exact h.setGroup _ _
  · split
    · exact (h.trigger g).arbitrate
    · exact h
  · exact h
  · exact h

theorem HeldLaw.ageHead (h : HeldLaw owed active ramping s) : HeldLaw owed active ramping s.ageHead :=
  h.update s.ageHead_changes (samples := .inr h.samples)

/-! The Scanout Unit. -/

theorem HeldLaw.frameLatch (h : HeldLaw owed active ramping s) : HeldLaw owed active ramping s.frameLatch := by
  rw [State.frameLatch_eq]
  exact (h.of_changes s.beforeTriggers_changes (by decide)).latchTriggers

theorem HeldLaw.panelOn (h : HeldLaw owed active ramping s) (e : Eye) : HeldLaw owed active ramping (s.panelOn e) := by
  have hon := h.of_changes (s.setPanel_changes e { (s.panel e).dark with power := .on }) (by decide)
  unfold State.panelOn
  dsimp only
  split
  · exact hon.frameLatch
  · exact hon

/-! The Sound Unit. -/

theorem HeldLaw.takeSound (h : HeldLaw owed active ramping s) (k : Sink) (pairs : List SoundPair) :
    HeldLaw owed active ramping (s.takeSound k pairs).2 :=
  h.update (s.takeSound_changes k pairs) (playouts := .inr (h.playouts.takeSound k pairs))

theorem HeldLaw.outputTick (h : HeldLaw owed active ramping s) : HeldLaw owed active ramping s.outputTick :=
  h.update s.outputTick_changes (playouts := .inr h.playouts.outputTick)

theorem HeldLaw.slipCheck (h : HeldLaw owed active ramping s) : HeldLaw owed active ramping s.slipCheck :=
  h.update s.slipCheck_changes (playouts := .inr h.playouts.slipCheck)

theorem HeldLaw.startPrimed (h : HeldLaw owed active ramping s) : HeldLaw owed active ramping s.startPrimed :=
  h.update s.startPrimed_changes (playouts := .inr h.playouts.startPrimed)

theorem HeldLaw.emptyIfBarred (h : HeldLaw owed active ramping s) : HeldLaw owed active ramping s.emptyIfBarred :=
  h.update s.emptyIfBarred_changes (playouts := .inr h.playouts.emptyIfBarred)

/-- Capture that was active stops if it has ended, and the queue is then as the state asks. -/
theorem HeldLaw.stopCaptureIfEnded (h : HeldLaw owed active ramping s) :
    HeldLaw owed s.captureActive ramping (s.stopCaptureIfEnded active) := by
  have hst := s.stopCaptureIfEnded_changes active
  exact ⟨h.pose.of_pose_eq (hst.pose_eq (by decide)), h.samples.of_changes hst (by decide), h.playouts.of_changes hst (by decide),
    h.capture.stopCaptureIfEnded, h.answers.of_changes hst (by decide)⟩

theorem HeldLaw.microphone (h : HeldLaw owed s.captureActive ramping s) (raw : BitVec 16) :
    HeldLaw owed s.captureActive ramping (s.microphone raw) := by
  refine h.update (s.microphone_changes raw) (capture := .inr ?_)
  unfold State.microphone
  dsimp only
  split
  next hactive =>
    have hactive : s.captureActive = true := hactive
    have hcapture := h.capture
    rw [hactive] at hcapture ⊢
    exact CaptureFits.offerCapture (s := { s with sound := { s.sound with mic := s.sound.mic.next } }) hcapture _
  next => exact h.capture

/-! The Upstream Sender. -/

theorem HeldLaw.sender (h : HeldLaw owed active ramping s) (x : Sender) : HeldLaw owed active ramping { s with sender := x } :=
  h.of_changes (s.sender_changes x) (by decide)

theorem HeldLaw.grantCyclic (h : HeldLaw owed active ramping s) (c : CyclicClass) : HeldLaw owed active ramping (s.grantCyclic c) := by
  unfold State.grantCyclic
  split
  next cell u hbuild =>
    refine HeldLaw.sender ?_ _
    cases c
    · exact h.update (State.buildVoice_changes hbuild) (capture := .inr (h.capture.buildVoice hbuild))
    · exact h.update (State.buildAnswer_changes hbuild) (answers := .inr (h.answers.buildAnswer hbuild))
    · exact h.of_changes (State.buildNotice_changes hbuild) (by decide)
  next => exact h

theorem HeldLaw.cellBoundary (h : HeldLaw owed active ramping s) : HeldLaw owed active ramping s.cellBoundary := by
  unfold State.cellBoundary State.grant
  split
  · split
    · split
      next hbuild => exact (h.update (State.buildMotion_changes hbuild) (samples := .inr (h.samples.buildMotion hbuild))).sender _
      next => exact h
    · split
      · exact h.grantCyclic _
      · exact h.sender _
  · exact h.sender _

/-! The Tether Receiver and the Clock Supervisor. -/

theorem HeldLaw.setLink (h : HeldLaw owed active ramping s) (l : Link) : HeldLaw owed active ramping (s.setLink l) :=
  h.of_changes (s.setLink_changes l) (by decide)

theorem HeldLaw.raise (h : HeldLaw owed active ramping s) (k : EventKind) : HeldLaw owed active ramping (s.raise k) :=
  h.of_changes (s.raise_changes k) (by decide)

theorem HeldLaw.firstBoundary (h : HeldLaw owed active ramping s) : HeldLaw owed active ramping s.firstBoundary := by
  unfold State.firstBoundary
  split
  · exact h.cellBoundary
  · exact h

theorem HeldLaw.goodHeader (h : HeldLaw owed active ramping s) : HeldLaw owed active ramping s.goodHeader := by
  unfold State.goodHeader
  split
  · exact h
  · split
    · exact (h.setLink _).firstBoundary
    · exact h.setLink _
  · exact h.setLink _
  · split
    · exact ((h.setLink _).raise _).firstBoundary
    · exact h.setLink _

theorem HeldLaw.enterLost (h : HeldLaw owed active ramping s) : HeldLaw owed active ramping s.enterLost :=
  ((h.setLink _).of_changes (State.blackOut_changes _) (by decide)).emptyIfBarred.of_changes (State.abandonFilling_changes _) (by decide)

theorem HeldLaw.badHeader (h : HeldLaw owed active ramping s) : HeldLaw owed active ramping s.badHeader := by
  unfold State.badHeader
  split
  · exact h
  · exact h.setLink _
  · exact h.setLink _
  · split
    · exact h.enterLost
    · exact h.setLink _

theorem HeldLaw.discardCell (h : HeldLaw owed active ramping s) (d : Discard) : HeldLaw owed active ramping (s.discardCell d) := by
  unfold State.discardCell
  dsimp only
  refine HeldLaw.raise (HeldLaw.setLink ?_ _) _
  split
  · exact h.badHeader
  · exact h.goodHeader

theorem HeldLaw.discardFramed (h : HeldLaw owed active ramping s) (framed : List Byte) :
    HeldLaw owed active ramping (s.discardFramed framed) := by
  unfold State.discardFramed
  split
  · split
    · exact h.discardCell _
    · exact h
  · exact h

theorem HeldLaw.clockStops (h : HeldLaw owed active ramping s) (cut : List Byte) : HeldLaw owed active ramping (s.clockStops cut) := by
  unfold State.clockStops
  split
  · refine HeldLaw.setLink ?_ _
    split
    · exact h
    · exact h.discardFramed cut
  · exact h

theorem HeldLaw.clockLossExpires (h : HeldLaw owed active ramping s) : HeldLaw owed active ramping s.clockLossExpires := by
  unfold State.clockLossExpires
  split
  · exact h
  next n _ =>
    have hstopped : HeldLaw owed active ramping ((s.elapse (clockLossTime - n)).setLink
        { (s.elapse (clockLossTime - n)).link with clockLoss := none }) :=
      (h.of_changes (s.elapse_changes _) (by decide)).setLink _
    dsimp only
    split
    · exact hstopped
    · exact hstopped.setLink _
    · exact hstopped.enterLost
    · exact hstopped.setLink _

/-! The cells, and the Management Unit. -/

/-- A cell that arrives keeps the laws when its delivery does. -/
theorem HeldLaw.arrive (h : HeldLaw owed active ramping s) (i : Fin 32) (admits : StreamEntry → Bool)
    {deliver : StreamEntry → State → Bool × State}
    (hd : ∀ e u, HeldLaw owed active ramping u → HeldLaw owed active ramping (deliver e u).2) :
    HeldLaw owed active ramping (s.arrive i admits deliver) := by
  have hhanded : HeldLaw owed active ramping s.goodHeader.handOn := h.goodHeader.of_changes (State.handOn_changes _) (by decide)
  unfold State.arrive
  dsimp only
  split
  · exact (hd _ _ hhanded).of_changes (State.countCell_changes _ _ _) (by decide)
  · exact hhanded.of_changes (State.countCell_changes _ _ _) (by decide)

theorem HeldLaw.takeAsk (h : HeldLaw owed active ramping s) (r : Request) : HeldLaw owed active ramping (s.takeAsk r).2 :=
  h.update (s.takeAsk_changes r) (answers := .inr (h.answers.takeAsk r))

/-- A stance that settles leaves no answer pending, so it may ramp or not. -/
theorem HeldLaw.settleAnswer (h : HeldLaw owed active ramping s) (ramping' : Bool) : HeldLaw owed active ramping' s.settleAnswer := by
  have hst := s.settleAnswer_changes
  exact ⟨h.pose.of_pose_eq (hst.pose_eq (by decide)), h.samples.of_changes hst (by decide), h.playouts.of_changes hst (by decide),
    h.capture.of_changes hst (by decide), h.answers.settleAnswer ramping'⟩

end
end Sys2Proof.Machine
end

section
namespace Sys2Proof.Machine

/-! ### The Power Unit's changes keep what the part holds (R96, R105 to R111, R153) -/

/-- A change that names no part of the Power Unit leaves it as it was. -/
theorem ChangesOnly.power_eq {P : List Part} {s t : State} (h : ChangesOnly P s t)
    (hP : ∀ p ∈ [Part.stances, .stanceLimits, .rules, .stance, .ramp, .limits, .marks, .checkDue], p ∉ P) : t.power = s.power := by
  have same := fun p hp => h p (hP p hp)
  simp only [List.mem_cons, List.not_mem_nil, or_false, forall_eq_or_imp, forall_eq, Part.same] at same
  obtain ⟨stances, ⟨staleLimit, rampTime⟩, rules, ⟨ordered, inEffect⟩, ramp, ⟨cap, floor⟩, ⟨marked, stale⟩, checkDue⟩ := same
  generalize t.power = a at *
  generalize s.power = b at *
  cases a
  cases b
  simp_all

@[simp] theorem State.changePower_power (p : Power) (s : State) : (s.changePower p).power = p :=
  (State.takePush_changes s.stance.fast s.captureActive (s.withPower p)).power_eq (by decide)

/-- The parts that say whether capture is active and whether the stance is ramping. -/
def modeParts : List Part := [.audio, .stances, .stance, .ramp]

/-- The state as the receiving blocks leave it before FAST's forced stop. -/
def State.pushedBlocks (p : Power) (s : State) : State := (s.withPower p).followDemand.limitBrightness.emptyIfBarred

theorem State.changePower_eq (p : Power) (s : State) : s.changePower p =
    if s.stance.fast && !((s.pushedBlocks p).stopCaptureIfEnded s.captureActive).stance.fast
    then ((s.pushedBlocks p).stopCaptureIfEnded s.captureActive).forceStopFast
    else (s.pushedBlocks p).stopCaptureIfEnded s.captureActive := rfl

section
variable {owed : Nat} {active ramping : Bool} {s t : State} {P : List Part}

/-- Whether capture is active rests on the Audio record and the stance in effect alone (R96). -/
theorem State.captureActive_of_changes (hst : ChangesOnly P s t) (hP : ∀ p ∈ [Part.audio, .stances, .stance], p ∉ P) :
    t.captureActive = s.captureActive := by
  have haudio : t.sound.audio = s.sound.audio := hst .audio (hP _ (by decide))
  have hstances : t.power.stances = s.power.stances := hst .stances (hP _ (by decide))
  obtain ⟨-, hstance⟩ : _ ∧ t.power.inEffect = s.power.inEffect := hst .stance (hP _ (by decide))
  simp only [State.captureActive, State.stance, haudio, hstances, hstance]

theorem HeldLaw.withPower (h : HeldLaw owed active ramping s) (p : Power) : HeldLaw owed active ramping (s.withPower p) := by
  obtain ⟨hpose, hsamples, hplayouts, hcapture, hanswers⟩ := h
  exact ⟨hpose.of_pose_eq rfl, hsamples, hplayouts, hcapture, hanswers⟩

/-- A change of the Power Unit's state, with its push: capture stops if the change ends it (R96, R111). -/
theorem HeldLaw.changePower (h : HeldLaw owed s.captureActive ramping s) (p : Power) :
    HeldLaw owed (s.changePower p).captureActive ramping (s.changePower p) := by
  have hpushed : HeldLaw owed s.captureActive ramping (s.pushedBlocks p) :=
    (((h.withPower p).of_changes (State.followDemand_changes _) (by decide)).of_changes
      (State.limitBrightness_changes _) (by decide)).emptyIfBarred
  have hstopped := hpushed.stopCaptureIfEnded
  have hst := (s.pushedBlocks p).stopCaptureIfEnded_changes s.captureActive
  rw [State.changePower_eq]
  split
  · have hactive := State.captureActive_of_changes
      (hst.step (State.forceStopFast_changes _) (R := pushParts) (by decide) (by decide)) (by decide)
    rw [hactive]
    exact (hstopped.stopGroup .fast).clearHistory
  · rw [State.captureActive_of_changes hst (by decide)]
    exact hstopped

theorem HeldLaw.of_ramping (h : HeldLaw owed active ramping s) : HeldLaw owed active true s :=
  { h with answers := h.answers.mono le_rfl fun _ => rfl }

/-- A change after which the stance settles: the pending answer is placed, whatever becomes of the ramp (R110, R153). -/
theorem HeldLaw.changePower_settles (h : HeldLaw owed s.captureActive ramping s) (p : Power) (k : EventKind) :
    StoredLaw owed ((s.changePower p).raise k).settleAnswer := by
  have hst := ((s.changePower p).raise_changes k).step (State.settleAnswer_changes _)
    (R := [.raised, .notice, .answers, .deferred]) (by decide) (by decide)
  have hactive := State.captureActive_of_changes hst (by decide)
  unfold StoredLaw
  rw [hactive]
  exact ((h.changePower p).raise k).settleAnswer _

theorem StoredLaw.evaluate (h : StoredLaw owed s) : StoredLaw owed s.evaluate := by
  unfold State.evaluate
  dsimp only
  split
  · exact h.changePower_settles _ _
  · split
    · split
      · exact h.changePower_settles _ _
      · unfold State.startRamp StoredLaw
        dsimp only
        rw [State.changePower_power]
        exact (HeldLaw.of_ramping h).changePower _
    · exact h

theorem StoredLaw.rampStep (h : StoredLaw owed s) (r : Ramp) : StoredLaw owed (s.rampStep r) := by
  unfold State.rampStep
  dsimp only
  split
  · exact h.changePower_settles _ _
  · unfold StoredLaw
    rw [State.changePower_power]
    exact (HeldLaw.of_ramping h).changePower _

/-- A change of other parts than those held, in which capture and the ramp stand, keeps the laws. -/
theorem StoredLaw.of_held (hst : ChangesOnly P s t) (hP : ∀ p ∈ modeParts, p ∉ P)
    (h : HeldLaw owed s.captureActive s.power.ramp.isSome t) : StoredLaw owed t := by
  have hramp : t.power.ramp = s.power.ramp := hst .ramp (hP _ (by decide))
  have hactive := State.captureActive_of_changes hst fun p hp => hP p (by revert p; decide)
  unfold StoredLaw
  rwa [hactive, hramp]

theorem StoredLaw.of_changes (h : StoredLaw owed s) (hst : ChangesOnly P s t) (hP : ∀ p ∈ heldParts ++ modeParts, p ∉ P) :
    StoredLaw owed t :=
  .of_held hst (fun p hp => hP p (List.mem_append_right _ hp)) (HeldLaw.of_changes h hst fun p hp => hP p (List.mem_append_left _ hp))

/-- A new Power Unit's state in which capture and the ramp stand. -/
theorem StoredLaw.withPower (h : StoredLaw owed s) {p : Power}
    (hvoice : p.stances[p.inEffect.index].voice = s.power.stances[s.power.inEffect.index].voice) (hramp : p.ramp = s.power.ramp) :
    StoredLaw owed (s.withPower p) := by
  unfold StoredLaw
  rw [show (s.withPower p).captureActive = s.captureActive from congrArg (s.sound.audio.captureEnable && ·) hvoice,
    show (s.withPower p).power.ramp = s.power.ramp from hramp]
  exact HeldLaw.withPower h p

theorem StoredLaw.stanceCheck (h : StoredLaw owed s) : StoredLaw owed s.stanceCheck := by
  have hdue : StoredLaw owed (s.withPower { s.power with checkDue := s.clock.now + 10000 }) := h.withPower rfl rfl
  have hmarked := hdue.of_changes (State.setMarks_changes _) (by decide)
  show StoredLaw owed (let u := (s.withPower { s.power with checkDue := s.clock.now + 10000 }).setMarks
    if u.target = u.power.inEffect then (match u.power.ramp with | some r => u.rampStep r | none => u) else u.evaluate)
  dsimp only
  split
  · split
    · exact hmarked.rampStep _
    · exact hmarked
  · exact hmarked.evaluate

/-- Another stance's record is written without a push, so that capture stands; the record in effect is pushed (R101). -/
theorem StoredLaw.writeStance (h : StoredLaw owed s) (i : Fin 4) (x : StanceRecord) : StoredLaw owed (s.writeStance i x) := by
  unfold State.writeStance
  dsimp only
  split
  · unfold StoredLaw
    rw [State.changePower_power]
    exact HeldLaw.changePower h _
  next hother =>
    refine h.withPower ?_ rfl
    have hne : i.val ≠ s.power.inEffect.index.val := fun e => hother (Fin.ext e)
    simp [Vector.getElem_set_ne, hne]

theorem StoredLaw.writeRule (h : StoredLaw owed s) (i : Fin 8) (x : Rule) : StoredLaw owed (s.writeRule i x) :=
  StoredLaw.evaluate (h.withPower rfl rfl)

/-- The AUDIO record written: a queue that is primed starts, and capture stops if the write ends it (R81, R96). -/
theorem StoredLaw.writeAudio (h : StoredLaw owed s) (a : AudioRecord) : StoredLaw owed (s.writeAudio a) := by
  have hwritten : HeldLaw owed s.captureActive s.power.ramp.isSome { s with sound := { s.sound with audio := a } } :=
    ⟨h.pose.of_pose_eq rfl, h.samples, h.playouts, h.capture, h.answers⟩
  refine StoredLaw.of_held (State.stopCaptureIfEnded_changes _ _) (by decide) ?_
  exact hwritten.startPrimed.stopCaptureIfEnded

/-! ### The resets empty what the part holds (R28, R34, R98, R156) -/

/-- Emptied stores keep the laws, whatever capture and the stance do. -/
theorem heldLaw_of_emptied (hhistory : s.pose.history = []) (hprev : s.pose.prev = none)
    (hreport : s.report.queue = [] ∧ s.report.gap = 0 ∧ s.report.filling = false)
    (hA : s.sound.queueA = Playout.emptied) (hB : s.sound.queueB = Playout.emptied)
    (hcapture : s.sound.capture = [] ∧ s.sound.captureGap = 0 ∧ s.sound.captureFilling = false) (hmgmt : s.mgmt = Mgmt.emptied) :
    HeldLaw 0 active ramping s where
  pose := poseLaw_of_empty hhistory hprev
  samples := by
    obtain ⟨hqueue, hgap, hfilling⟩ := hreport
    simp [SamplesFit, hqueue, hgap, hfilling]
  playouts := by simp [PlayoutsFit, hA, hB, Playout.emptied]
  capture := by
    obtain ⟨hqueue, hgap, hfilling⟩ := hcapture
    simp [CaptureFits, hqueue, hgap, hfilling]
  answers := by simp [AnswersFit, hmgmt, Mgmt.emptied, Mgmt.fill]

theorem storedLaw_powerOnReset (s : State) : StoredLaw 0 s.powerOnReset :=
  heldLaw_of_emptied rfl rfl ⟨rfl, rfl, rfl⟩ rfl rfl ⟨rfl, rfl, rfl⟩ rfl

theorem storedLaw_tetherReset (s : State) : StoredLaw 0 s.tetherReset := by
  refine heldLaw_of_emptied ?_ ?_ ⟨?_, ?_, ?_⟩ ?_ ?_ ⟨?_, ?_, ?_⟩ ?_ <;> simp only [State.tetherReset, State.raiseIf_pose,
    State.raiseIf_report, State.raiseIf_sound, State.raiseIf_mgmt] <;> rfl

theorem storedLaw_holdExpires (s : State) : StoredLaw 0 s.holdExpires :=
  heldLaw_of_emptied rfl rfl ⟨rfl, rfl, rfl⟩ rfl rfl ⟨rfl, rfl, rfl⟩ rfl

end
end Sys2Proof.Machine
end

section
namespace Sys2Proof.Machine

/-! ### The services keep what the part holds (R142 to R149, R153) -/

/-- What a verdict leaves if it carries the request out: the state has a property, as in `Verdict.Keeps`, and beyond it an order that is
answered later leaves a ramp in progress (R153). -/
def Verdict.Leaves (P : State → Prop) : Verdict → Prop
  | .done _ t => P t
  | .deferred t => P t ∧ t.power.ramp.isSome
  | .refused _ _ => True
  | .busy _ => True

theorem Verdict.Leaves.needing {P : State → Prop} {n : Nat} {r : Request} {f : List Byte → Verdict} (h : ∀ b, (f b).Leaves P) :
    (r.needing n f).Leaves P := by
  unfold Request.needing
  split
  · trivial
  · exact h _

theorem Verdict.Leaves.ranged {P : State → Prop} {α : Type} {x : Except Nat α} {f : α → Verdict}
    (h : ∀ v, x = .ok v → (f v).Leaves P) : (Machine.ranged x f).Leaves P := by
  cases x with
  | error k => trivial
  | ok v => exact h v rfl

theorem Verdict.Leaves.unlessConflict {P : State → Prop} {v : Verdict} (h : v.Leaves P) (mask : BitVec 32)
    (constraints : List (Bool × List Nat)) : (Machine.unlessConflict mask constraints v).Leaves P := by
  unfold Machine.unlessConflict
  dsimp only
  split
  · exact h
  · trivial

theorem Verdict.Leaves.writeAct {P : State → Prop} {t : Table} {readOnly : Nat → Nat → Bool}
    {body : Nat → BitVec 32 → List Byte → Verdict} {r : Request} {s : State} (h : ∀ i m b, (body i m b).Leaves P) :
    (Machine.writeAct t readOnly body r s).Leaves P := by
  unfold Machine.writeAct
  dsimp only
  split
  · trivial
  · split
    · trivial
    · split
      · trivial
      · split
        · trivial
        · split
          · trivial
          · exact h _ _ _

section
variable {owed : Nat} {s t : State}

/-- The laws rest on five blocks alone. -/
theorem StoredLaw.of_eq (h : StoredLaw owed s) (hpose : t.pose = s.pose) (hreport : t.report = s.report) (hsound : t.sound = s.sound)
    (hmgmt : t.mgmt = s.mgmt) (hpower : t.power = s.power) : StoredLaw owed t := by
  obtain ⟨pose, samples, playouts, capture, answers⟩ := h
  have hactive : t.captureActive = s.captureActive := by simp only [State.captureActive, State.stance, hsound, hpower]
  unfold StoredLaw
  rw [hactive, hpower]
  exact ⟨pose.of_pose_eq hpose, hreport ▸ samples, hsound ▸ playouts, hsound ▸ capture, hmgmt ▸ answers⟩

theorem StoredLaw.doneWrite (h : StoredLaw owed s) (t : Table) (i : Nat) : (doneWrite t i s).Leaves (StoredLaw owed) := h

theorem StoredLaw.readAct (h : StoredLaw owed s) (r : Request) : (readAct r s).Leaves (StoredLaw owed) := by
  unfold Machine.readAct
  split
  · trivial
  · refine .needing fun b => ?_
    split
    · trivial
    · split
      · trivial
      · exact h

theorem StoredLaw.readSnapshotAct (h : StoredLaw owed s) (r : Request) : (readSnapshotAct r s).Leaves (StoredLaw owed) := by
  refine .needing fun b => ?_
  split
  · trivial
  · exact .of_held s.takeSnapshot_changes (by decide) (HeldLaw.takeSnapshot h)

theorem StoredLaw.descReadAct (h : StoredLaw owed s) (r : Request) : (descReadAct r s).Leaves (StoredLaw owed) := by
  refine .needing fun b => ?_
  dsimp only
  split
  · trivial
  · split
    · trivial
    · exact h

theorem Verdict.Leaves.writeOtherAct (P : State → Prop) (r : Request) (s : State) : (writeOtherAct r s).Leaves P := by
  unfold Machine.writeOtherAct
  split
  · split <;> trivial
  · trivial

theorem StoredLaw.writeStreamsAct (h : StoredLaw owed s) (r : Request) : (writeStreamsAct r s).Leaves (StoredLaw owed) := by
  refine .writeAct fun i m b => ?_
  split
  next hi =>
    refine .ranged fun e _ => .unlessConflict ?_ _ _
    have hwritten : StoredLaw owed { s with streams := s.streams.set i e } := h.of_eq rfl rfl rfl rfl rfl
    show StoredLaw owed (s.writeStream ⟨i, hi⟩ e)
    unfold State.writeStream
    dsimp only
    split
    · exact hwritten.of_changes (State.abandonFilling_changes _) (by decide)
    · exact hwritten
  next => trivial

theorem StoredLaw.writeChannelsAct (h : StoredLaw owed s) (r : Request) : (writeChannelsAct r s).Leaves (StoredLaw owed) := by
  refine .writeAct fun i m b => ?_
  split
  · refine .ranged fun c _ => .unlessConflict ?_ _ _
    split
    · trivial
    · split
      · trivial
      · exact (h.of_changes (s.writeChannel_changes _ m c) (by decide)).doneWrite _ _
  · trivial

theorem StoredLaw.writeGroupsAct (h : StoredLaw owed s) (r : Request) : (writeGroupsAct r s).Leaves (StoredLaw owed) := by
  refine .writeAct fun i m b => ?_
  dsimp only
  generalize (if i = 0 then ScanGroup.fast else .slow) = g
  refine .ranged fun x _ => ?_
  split
  · trivial
  · exact (h.of_changes (s.setGroup_changes g x) (by decide)).doneWrite _ _

theorem StoredLaw.writePanelsAct (h : StoredLaw owed s) (r : Request) : (writePanelsAct r s).Leaves (StoredLaw owed) := by
  refine .writeAct fun i m b => .ranged fun p _ => ?_
  split
  · trivial
  · have hset : ∀ e, StoredLaw owed (s.setPanel e p).limitBrightness := fun e =>
      (h.of_changes (s.setPanel_changes e p) (by decide)).of_changes (State.limitBrightness_changes _) (by decide)
    show StoredLaw owed (State.writePanel _ _ p s)
    unfold State.writePanel
    dsimp only
    split
    · exact (hset _).of_changes (State.emptyAllSlots_changes _) (by decide)
    · exact hset _

theorem StoredLaw.writeScanoutAct (h : StoredLaw owed s) (r : Request) : (writeScanoutAct r s).Leaves (StoredLaw owed) := by
  refine .writeAct fun i m b => .ranged fun x _ => ?_
  split
  · trivial
  · have hwritten : StoredLaw owed { s with scanout := x } := h.of_eq rfl rfl rfl rfl rfl
    exact (hwritten.of_changes (State.followDemand_changes _) (by decide)).doneWrite _ _

theorem StoredLaw.writeAudioAct (h : StoredLaw owed s) (r : Request) : (writeAudioAct r s).Leaves (StoredLaw owed) :=
  .writeAct fun _ _ _ => .ranged fun a _ => .unlessConflict ((h.writeAudio a).doneWrite _ _) _ _

/-- A written report record keeps the queue and its counts; only the head's expiry may be marked beside (R29, R30). -/
theorem Report.written_keeps {mask : BitVec 32} {image : List Byte} {x y : Report} (h : x.written mask image = .ok y) :
    y.queue = x.queue ∧ y.gap = x.gap ∧ y.filling = x.filling := by
  unfold Report.written at h
  simp only [bind, Except.bind, pure, Except.pure] at h
  repeat' split at h
  all_goals cases h
  exact ⟨rfl, rfl, rfl⟩

theorem SamplesFit.reage {r : Report} (h : SamplesFit r) (now : Time) : SamplesFit (r.reage now) := by
  unfold Report.reage
  split
  · exact h
  · exact h

theorem StoredLaw.writeReportAct (h : StoredLaw owed s) (r : Request) : (writeReportAct r s).Leaves (StoredLaw owed) := by
  refine .writeAct fun i m b => .ranged fun x hx => ?_
  obtain ⟨hqueue, hgap, hfilling⟩ := Report.written_keeps hx
  have hfits : SamplesFit x := by
    rw [SamplesFit, hqueue, hgap, hfilling]
    exact h.samples
  have hreport : ∀ y, SamplesFit y → StoredLaw owed { s with report := y } := fun y hy =>
    ⟨h.pose.of_pose_eq rfl, hy, h.playouts, h.capture, h.answers⟩
  refine hreport _ ?_
  split
  · exact hfits.reage _
  · exact hfits

theorem StoredLaw.writeStancesAct (h : StoredLaw owed s) (r : Request) : (writeStancesAct r s).Leaves (StoredLaw owed) := by
  refine .writeAct fun i m b => ?_
  split
  · refine .ranged fun x _ => ?_
    split
    · trivial
    · exact (h.writeStance _ x).doneWrite _ _
  · trivial

/-- A written limits record keeps the stances and the ramp (R102). -/
theorem Power.limitsWritten_keeps {mask : BitVec 32} {image : List Byte} {p q : Power} (h : p.limitsWritten mask image = .ok q) :
    ∃ staleLimit rampTime, q = { p with staleLimit := staleLimit, rampTime := rampTime } := by
  unfold Power.limitsWritten at h
  simp only [bind, Except.bind, pure, Except.pure] at h
  repeat' split at h
  all_goals cases h
  exact ⟨_, _, rfl⟩

theorem StoredLaw.writeStanceLimitsAct (h : StoredLaw owed s) (r : Request) : (writeStanceLimitsAct r s).Leaves (StoredLaw owed) := by
  refine .writeAct fun i m b => .ranged fun p hp => ?_
  obtain ⟨staleLimit, rampTime, rfl⟩ := Power.limitsWritten_keeps hp
  have hwritten : StoredLaw owed (s.withPower { s.power with staleLimit := staleLimit, rampTime := rampTime }) := h.withPower rfl rfl
  exact hwritten.doneWrite _ _

theorem StoredLaw.writeRulesAct (h : StoredLaw owed s) (r : Request) : (writeRulesAct r s).Leaves (StoredLaw owed) := by
  refine .writeAct fun i m b => ?_
  split
  · exact .ranged fun x _ => (h.writeRule _ x).doneWrite _ _
  · trivial

/-- What the Event Unit makes of a request is held nowhere else. -/
theorem StoredLaw.events (h : StoredLaw owed s) (e : Events) : StoredLaw owed { s with events := e } := h.of_eq rfl rfl rfl rfl rfl

theorem StoredLaw.eventSetAct (h : StoredLaw owed s) {f : EventSet → State → State} (hf : ∀ k, ∃ e, f k s = { s with events := e })
    (r : Request) : (eventSetAct f r s).Leaves (StoredLaw owed) := by
  refine .needing fun b => ?_
  split
  · trivial
  next kinds _ =>
    obtain ⟨e, he⟩ := hf kinds
    show StoredLaw owed (f kinds s)
    exact he ▸ h.events e

theorem StoredLaw.eventsInjectAct (h : StoredLaw owed s) (r : Request) : (eventsInjectAct r s).Leaves (StoredLaw owed) := by
  refine .needing fun b => ?_
  split
  · trivial
  · exact h.eventSetAct (fun _ => ⟨_, rfl⟩) r

theorem StoredLaw.gateAct (h : StoredLaw owed s) (r : Request) : (gateAct r s).Leaves (StoredLaw owed) := by
  refine .needing fun b => ?_
  split
  · exact h.events _
  · exact h.events _
  · trivial

theorem State.startGroup_changes (g : ScanGroup) (s : State) : ChangesOnly sensingParts s (s.startGroup g) := by
  unfold State.startGroup
  split
  · dsimp only
    split
    · exact (s.setGroup_changes g _).step (State.clearHistory_changes _) (by decide) (by decide)
    · exact (s.setGroup_changes g _).mono (by decide)
  · split
    · exact (s.trigger_changes g).step (State.arbitrate_changes _) (by decide) (by decide)
    · exact .refl _ s
  · exact .refl _ s
  · exact .refl _ s

theorem StoredLaw.groupStartAct (h : StoredLaw owed s) (r : Request) : (groupStartAct r s).Leaves (StoredLaw owed) := by
  refine .needing fun b => ?_
  split
  · trivial
  next g _ =>
    split
    · trivial
    · exact .of_held (s.startGroup_changes g) (by decide) (HeldLaw.startGroup h g)

theorem StoredLaw.groupStopAct (h : StoredLaw owed s) (r : Request) : (groupStopAct r s).Leaves (StoredLaw owed) := by
  refine .needing fun b => ?_
  split
  · trivial
  next g _ =>
    show StoredLaw owed (if (s.group g).phase = .stopped then s else s.stopGroup g)
    split
    · exact h
    · exact h.of_changes (s.stopGroup_changes g) (by decide)

/-- An order that leaves a ramp is answered when the stance settles, any other at once (R153). -/
theorem StoredLaw.stanceOrderAct (h : StoredLaw owed s) (r : Request) : (stanceOrderAct r s).Leaves (StoredLaw owed) := by
  refine .needing fun b => ?_
  split
  · trivial
  next x _ =>
    have hevaluated : StoredLaw owed (State.evaluate { s with power := { s.power with ordered := x } }) :=
      StoredLaw.evaluate (h.withPower rfl rfl)
    split
    · trivial
    · dsimp only
      split
      next hramps => exact ⟨hevaluated, hramps⟩
      next => exact hevaluated

theorem StoredLaw.countersClearAct (h : StoredLaw owed s) (r : Request) : (countersClearAct r s).Leaves (StoredLaw owed) :=
  h.of_eq rfl rfl rfl rfl rfl

/-- An answer that is owed is placed. -/
theorem StoredLaw.place (h : StoredLaw (owed + 1) s) (a : Answer) : StoredLaw owed (s.placeAnswer a) :=
  ⟨h.pose.of_pose_eq rfl, h.samples, h.playouts, h.capture, h.answers.place a⟩

/-- An answer that is owed is put off until the ramp in progress settles (R153). -/
theorem StoredLaw.defer (h : StoredLaw (owed + 1) s) (hramps : s.power.ramp.isSome) (d : Deferred) :
    StoredLaw owed (s.withMgmt { s.mgmt with deferred := some d }) :=
  ⟨h.pose.of_pose_eq rfl, h.samples, h.playouts, h.capture, (h.answers.defer d).mono le_rfl fun _ => hramps⟩

/-- A service takes a request from the queue and places its answer, or reserves the place (R143, R144, R153). -/
theorem StoredLaw.serve (h : StoredLaw 0 s) {row : Instr} {act : Request → State → Verdict}
    (hact : ∀ r u, StoredLaw 1 u → (act r u).Leaves (StoredLaw 1)) : StoredLaw 0 (s.serve row act) := by
  unfold State.serve
  split
  · exact h
  next r rest hrequests =>
    split
    next hserved =>
      obtain ⟨hroom, -⟩ := hserved
      have hdequeued : StoredLaw 1 (s.dequeued rest) :=
        ⟨h.pose.of_pose_eq rfl, h.samples, h.playouts, h.capture, h.answers.dequeue hrequests hroom⟩
      have hverdict : ((s.dequeued rest).judgeRequest act r).Leaves (StoredLaw 1) := by
        unfold State.judgeRequest
        split
        · exact hact r _ hdequeued
        · trivial
      show StoredLaw 0 ((s.dequeued rest).conclude r ((s.dequeued rest).judgeRequest act r))
      cases hv : (s.dequeued rest).judgeRequest act r with
      | refused why field => exact hdequeued.place _
      | busy field => exact hdequeued.place _
      | done value t =>
        rw [hv] at hverdict
        exact StoredLaw.place hverdict _
      | deferred t =>
        rw [hv] at hverdict
        obtain ⟨ht, hramps⟩ := hverdict
        exact ht.defer hramps _
    next => exact h

/-- Every service keeps what the part holds. -/
theorem StoredLaw.service (h : StoredLaw 0 s) {c : Instr} {act : Request → State → Verdict} (hact : serviceAct c = some act) :
    StoredLaw 0 (s.serve c act) := by
  refine h.serve fun r u hu => ?_
  cases c <;> cases hact
  case read => exact hu.readAct r
  case readSnapshot => exact hu.readSnapshotAct r
  case write => exact .writeOtherAct _ r u
  case writeStreams => exact hu.writeStreamsAct r
  case writeChannels => exact hu.writeChannelsAct r
  case writeGroups => exact hu.writeGroupsAct r
  case writePanels => exact hu.writePanelsAct r
  case writeScanout => exact hu.writeScanoutAct r
  case writeAudio => exact hu.writeAudioAct r
  case writeReport => exact hu.writeReportAct r
  case writeStances => exact hu.writeStancesAct r
  case writeStanceLimits => exact hu.writeStanceLimitsAct r
  case writeRules => exact hu.writeRulesAct r
  case descRead => exact hu.descReadAct r
  case eventsClear => exact hu.eventSetAct (fun _ => ⟨_, rfl⟩) r
  case eventsEnable => exact hu.eventSetAct (fun _ => ⟨_, rfl⟩) r
  case eventsDisable => exact hu.eventSetAct (fun _ => ⟨_, rfl⟩) r
  case eventsInject => exact hu.eventsInjectAct r
  case gate => exact hu.gateAct r
  case lockLive => exact hu.events _
  case groupStart => exact hu.groupStartAct r
  case groupStop => exact hu.groupStopAct r
  case rangeClear => exact .needing fun _ => hu.of_changes (u.clearRange_changes _) (by decide)
  case extremesClear => exact .needing fun _ => hu.of_changes (u.clearExtremes_changes _) (by decide)
  case stanceOrder => exact hu.stanceOrderAct r
  case countersClear => exact hu.countersClearAct r

theorem StoredLaw.caughtUp (h : StoredLaw 0 s) : StoredLaw 0 s.caughtUp :=
  State.caughtUp_keeps (fun _ _ hact _ hs => hs.service hact) h

end
end Sys2Proof.Machine
end

section
namespace Sys2Proof.Machine

/-! ### The commands keep what the part holds -/

section
variable {s t : State}

theorem StoredLaw.timed (h : StoredLaw 0 s) (due : Option Time) {f : State → State} (hf : ∀ u, StoredLaw 0 u → StoredLaw 0 (f u)) :
    StoredLaw 0 (s.timed due f) := by
  unfold State.timed
  split
  · split
    · exact hf _ (h.of_changes (s.runTo_changes _) (by decide))
    · exact h
  · exact h

theorem StoredLaw.whenReceiving (h : StoredLaw 0 s) {f : State → State} (hf : StoredLaw 0 (f s)) : StoredLaw 0 (s.whenReceiving f) := by
  unfold State.whenReceiving
  split
  · exact hf
  · exact h

theorem StoredLaw.goodHeader (h : StoredLaw 0 s) : StoredLaw 0 s.goodHeader :=
  .of_held s.goodHeader_changes (by decide) (HeldLaw.goodHeader h)

theorem StoredLaw.discardCell (h : StoredLaw 0 s) (d : Discard) : StoredLaw 0 (s.discardCell d) :=
  .of_held (s.discardCell_changes d) (by decide) (HeldLaw.discardCell h d)

/-- A cell that arrives keeps the laws when its delivery keeps them and leaves capture and the ramp. -/
theorem StoredLaw.arrive (h : StoredLaw 0 s) {P : List Part} {i : Fin 32} {admits : StreamEntry → Bool}
    {deliver : StreamEntry → State → Bool × State} (hchanges : ∀ e u, ChangesOnly P u (deliver e u).2)
    (hP : ∀ p ∈ modeParts, p ∉ headerParts ++ [.streams] ++ P)
    (hd : ∀ {active ramping : Bool} (e : StreamEntry) (u : State), HeldLaw 0 active ramping u → HeldLaw 0 active ramping (deliver e u).2) :
    StoredLaw 0 (s.arrive i admits deliver) :=
  .of_held (s.arrive_changes i admits deliver hchanges) hP (HeldLaw.arrive h i admits hd)

/-- A cell that its length or its operands turn away as a runt, and is else taken. -/
theorem StoredLaw.cell (h : StoredLaw 0 s) {fits : State → Bool} {f : State → State} (hf : StoredLaw 0 (f s)) :
    StoredLaw 0 (s.whenReceiving fun s => if fits s then f s else s.discardCell .runt) := by
  refine h.whenReceiving ?_
  split
  · exact hf
  · exact h.discardCell _

theorem StoredLaw.reset (h : StoredLaw 0 s) (i : Fin 32) : StoredLaw 0 (State.whenReceiving (fun s =>
    let s := s.arrive i (fun _ => i == 0) fun _ s => (true, s)
    if i = 0 then s.tetherReset else s) s) := by
  refine h.whenReceiving ?_
  dsimp only
  split
  · exact storedLaw_tetherReset _
  · exact h.arrive (P := []) (fun _ u => .refl _ u) (by decide) fun _ _ hu => hu

theorem StoredLaw.crystalStops (h : StoredLaw 0 s) : StoredLaw 0 s.crystalStops := by
  unfold State.crystalStops
  split
  · exact h.of_eq rfl rfl rfl rfl rfl
  · exact h

theorem StoredLaw.crystalLossExpires (h : StoredLaw 0 s) : StoredLaw 0 s.crystalLossExpires := by
  unfold State.crystalLossExpires
  split
  · exact h
  next n _ =>
    dsimp only
    generalize hfallen : State.raise .clockFallback _ = u
    have hu : StoredLaw 0 u := hfallen ▸ h.of_eq rfl rfl rfl rfl rfl
    have hblack := hu.of_changes u.blackOut_changes (by decide)
    exact .of_held (State.emptyIfBarred_changes _) (by decide) (HeldLaw.emptyIfBarred hblack)

/-- Every command keeps what the part holds. -/
theorem StoredLaw.exec (h : StoredLaw 0 s) {c : Instr} (ht : exec c s = .next t) : StoredLaw 0 t := by
  have hu := h.caughtUp
  have hturn : ∀ {f : State → State}, s.inTurn f = .next t → StoredLaw 0 (f s.caughtUp) → StoredLaw 0 t := fun ht hf =>
    Host.Outcome.next.inj ht ▸ hf
  cases hact : serviceAct c with
  | some act => exact Host.Outcome.next.inj ((exec_of_serviceAct hact s).symm.trans ht) ▸ h.service hact
  | none =>
    cases c
    all_goals simp only [serviceAct, reduceCtorEq] at hact
    case powerOnReset => exact Host.Outcome.next.inj ht ▸ storedLaw_powerOnReset s
    case reset i => exact hturn ht (hu.reset i)
    case holdExpiry => exact hturn ht (hu.timed _ fun u _ => storedLaw_holdExpires u)
    case clockAbsent cut =>
      exact hturn ht (.of_held (State.clockStops_changes cut _) (by decide) (HeldLaw.clockStops hu cut))
    case clockReturn => exact hturn ht (hu.of_changes (State.clockReturns_changes _) (by decide))
    case clockLossExpiry =>
      exact hturn ht (.of_held (State.clockLossExpires_changes _) (by decide) (HeldLaw.clockLossExpires hu))
    case crystalAbsent => exact hturn ht hu.crystalStops
    case crystalReturn => exact hturn ht (hu.of_eq rfl rfl rfl rfl rfl)
    case crystalLossExpiry => exact hturn ht hu.crystalLossExpires
    case cellDiscarded framed =>
      exact hturn ht (.of_held (State.discardFramed_changes framed _) (by decide) (HeldLaw.discardFramed hu framed))
    case fill i => exact hturn ht (hu.whenReceiving hu.goodHeader)
    case picOpen => exact hturn ht (hu.whenReceiving (hu.arrive (fun _ u => u.openFrame_changes _ _ _) (by decide)
      fun _ u h => h.of_changes (u.openFrame_changes _ _ _) (by decide)))
    case picBand => exact hturn ht (hu.cell (hu.arrive (fun _ u => u.acceptBand_changes _ _ _ _) (by decide)
      fun _ u h => h.of_changes (u.acceptBand_changes _ _ _ _) (by decide)))
    case picClose => exact hturn ht (hu.whenReceiving (hu.arrive (fun _ u => u.closeFrame_changes _) (by decide)
      fun _ u h => h.of_changes (u.closeFrame_changes _) (by decide)))
    case bandWriteComplete i => exact hturn ht (hu.of_changes (State.completeWrite_changes i _) (by decide))
    case sound pairs =>
      exact hturn ht (hu.cell (hu.arrive (fun _ u => u.takeSound_changes _ _) (by decide) fun _ _ h => h.takeSound _ _))
    case ask => exact hturn ht (hu.cell (hu.arrive (fun _ u => u.takeAsk_changes _) (by decide) fun _ _ h => h.takeAsk _))
    case scanTrigger g =>
      exact hturn ht (hu.timed _ fun u h => .of_held (u.timerTrigger_changes g) (by decide) (HeldLaw.timerTrigger h g))
    case burstComplete raw =>
      exact hturn ht (hu.timed _ fun u h => .of_held (u.burstDone_changes raw) (by decide) (HeldLaw.burstDone h raw))
    case conversionComplete raw =>
      exact hturn ht (hu.timed _ fun u h => .of_held (u.conversionDone_changes raw) (by decide) (HeldLaw.conversionDone h raw))
    case ageExpiry => exact hturn ht (hu.timed _ fun u h => .of_held u.ageHead_changes (by decide) (HeldLaw.ageHead h))
    case frameLatch => exact hturn ht (hu.timed _ fun u h => .of_held u.frameLatch_changes (by decide) (HeldLaw.frameLatch h))
    case panelReady e => exact hturn ht (hu.timed _ fun u h => .of_held (u.panelOn_changes e) (by decide) (HeldLaw.panelOn h e))
    case powerDownComplete e => exact hturn ht (hu.timed _ fun u h => h.of_changes (u.panelDown_changes e) (by decide))
    case outputTick => exact hturn ht (hu.timed _ fun u h => .of_held u.outputTick_changes (by decide) (HeldLaw.outputTick h))
    case slipCheck =>
      refine hturn ht ?_
      show StoredLaw 0 (if s.caughtUp.sound.slipDue then s.caughtUp.slipCheck else s.caughtUp)
      split
      · exact .of_held (State.slipCheck_changes _) (by decide) (HeldLaw.slipCheck hu)
      · exact hu
    case microphoneSample raw =>
      exact hturn ht (hu.timed _ fun u h => .of_held (u.microphone_changes raw) (by decide) (HeldLaw.microphone h raw))
    case stanceCheck => exact hturn ht (hu.timed _ fun _ h => h.stanceCheck)
    case cellBoundary => exact hturn ht (.of_held (State.cellBoundary_changes _) (by decide) (HeldLaw.cellBoundary hu))

theorem StoredLaw.step (h : StoredLaw 0 s) (ht : step s = .next t) : StoredLaw 0 t := by
  unfold Machine.step at ht
  split at ht
  next c rest _ => exact StoredLaw.exec (s := { s with pending := rest }) (h.of_eq rfl rfl rfl rfl rfl) ht
  next =>
    unfold State.ownStep at ht
    split at ht
    · exact h.exec ht
    · exact Host.Outcome.next.inj ht ▸ h.of_changes (s.elapse_changes 1) (by decide)

/-- The laws of the device say what the part holds. -/
theorem DeviceLaw.stored (h : DeviceLaw s) : StoredLaw 0 s := by
  obtain ⟨-, -, hqueue, -, -, hpose, -⟩ := h
  exact storedLaw_iff.2 ⟨hqueue, hpose⟩

end

end Sys2Proof.Machine
end

section
open Sys2Proof Sys2Proof.Machine

/-- Settles O5: what the part holds is kept by every step, and the law of the queues is part of it. -/
theorem queueLawKept : Obligations.QueueLawKept := fun _ _ hs hstep => (storedLaw_iff.1 (hs.stored.step hstep)).1

/-- Settles O8: what the part holds is kept by every step, and the law of the pose history is part of it. -/
theorem poseLawKept : Obligations.PoseLawKept := fun _ _ hs hstep => (storedLaw_iff.1 (hs.stored.step hstep)).2
end

section
open Sys2Proof Sys2Proof.Machine

/-- Settles O56: the expiry is taken at its due time, and the queue is not empty. -/
theorem ageExpiryMakesReady : Obligations.AgeExpiryMakesReady := by
  intro s hserved hruns hexpired e rest hqueue
  have hdue : s.ageDue = some (e.time + BitVec.ofNat 32 s.report.ageLimit) := by
    rw [State.ageDue, hexpired, hqueue]
    rfl
  generalize e.time + BitVec.ofNat 32 s.report.ageLimit = d at hdue ⊢
  have hreport : (s.runTo d).ageHead.report = { s.report with expired := true } := by
    rw [← s.runTo_report d]
    rfl
  refine ⟨_, State.inTurn_timed hserved hruns hdue, hreport, ?_, State.ageHead_clock _, State.ageHead_link _,
    (s.runTo_changes d).step (State.ageHead_changes _) (by decide) (by decide)⟩
  simp [hreport, Report.motionReady, hqueue]
end

section
namespace Sys2Proof.Machine

/-! ### The grants of the upstream lane (R32, R97, R125 to R127, R143, R164) -/

theorem State.wire_changes (x : Option UpCell) (s : State) : ChangesOnly [.wire] s { s with sender := { s.sender with wire := x } } := by
  intro p hp
  cases p <;> simp_all [Part.same]

/-- What a window takes and leaves: a run from the front, of at most `room` entries and each within 65,535 µs of the base, which ends for
want of room, of entries, or at an entry that lies too far off (R32). -/
theorem takeWindow_spec (base : Time) (room : Nat) (q : List SampleEntry) :
    q = (takeWindow base room q).1 ++ (takeWindow base room q).2 ∧ (takeWindow base room q).1.length ≤ room ∧
    (∀ e ∈ (takeWindow base room q).1, distance base e.time < 65536) ∧
    ((takeWindow base room q).1.length = room ∨ (takeWindow base room q).2 = [] ∨
      ∃ e ∈ (takeWindow base room q).2.head?, 65536 ≤ distance base e.time) := by
  induction room generalizing q with
  | zero => simp [takeWindow]
  | succ room ih =>
    cases q with
    | nil => simp [takeWindow]
    | cons e q =>
      obtain ⟨hsplit, hroom, hwithin, hends⟩ := ih q
      by_cases hnear : distance base e.time < 65536
      · have htake : takeWindow base (room + 1) (e :: q) = (e :: (takeWindow base room q).1, (takeWindow base room q).2) := if_pos hnear
        rw [htake]
        refine ⟨congrArg (e :: ·) hsplit, Nat.succ_le_succ hroom, List.forall_mem_cons.2 ⟨hnear, hwithin⟩, ?_⟩
        simpa using hends
      · have htake : takeWindow base (room + 1) (e :: q) = ([], e :: q) := if_neg hnear
        rw [htake]
        exact ⟨rfl, Nat.zero_le _, by simp, .inr (.inr ⟨e, rfl, not_lt.1 hnear⟩)⟩

/-- The window of the head begins with the head. -/
theorem takeWindow_head (e : SampleEntry) (q : List SampleEntry) :
    takeWindow e.time 60 (e :: q) = (e :: (takeWindow e.time 59 q).1, (takeWindow e.time 59 q).2) :=
  if_pos (by simp)

/-- The MOTION cell built from a queue with a head (R32). -/
theorem State.buildMotion_cons {s : State} {base : SampleEntry} {q : List SampleEntry} (hqueue : s.report.queue = base :: q) :
    s.buildMotion = some
      (.motion base.time s.report.gap ((base :: (takeWindow base.time 59 q).1).map fun e => ⟨e.slot, e.value, distance base.time e.time⟩),
        { s with report := { s.report with
            queue := (takeWindow base.time 59 q).2
            gap := 0
            filling := false
            expired := (takeWindow base.time 59 q).2.head?.any fun e => decide (s.report.ageLimit ≤ distance e.time s.clock.now) } }) := by
  rw [State.buildMotion, hqueue]
  dsimp only
  rw [takeWindow_head]
  cases (takeWindow base.time 59 q).2 <;> rfl

theorem CyclicClass.mem_after (c last : CyclicClass) : c ∈ last.after := by
  cases last <;> cases c <;> decide

/-- The first entry that satisfies a test is the one before which none does. -/
theorem find?_eq_some_of_takeWhile {α : Type} [DecidableEq α] {p : α → Bool} {c : α} {l : List α} (hmem : c ∈ l) (hc : p c = true)
    (hbefore : ∀ d ∈ l.takeWhile (· != c), p d = false) : l.find? p = some c := by
  induction l with
  | nil => cases hmem
  | cons d l ih =>
    by_cases hd : d = c
    · rw [hd]
      exact List.find?_cons_of_pos hc
    · rw [List.takeWhile_cons_of_pos (by simpa using hd), List.forall_mem_cons] at hbefore
      obtain ⟨hnot, hbefore⟩ := hbefore
      rw [List.find?_cons_of_neg (by simp [hnot])]
      exact ih (List.mem_of_ne_of_mem (Ne.symm hd) hmem) hbefore

section
variable {s : State}

theorem State.cellBoundary_of_idle (h : s.link.state ≠ .up ∨ s.clock.source ≠ .crystal) :
    s.cellBoundary = { s with sender := { s.sender with wire := none } } := by
  have hstays : s.maySend = false := by
    rcases h with h | h <;> simp [State.maySend, h]
  rw [State.cellBoundary, hstays]
  rfl

theorem State.cellBoundary_of_maySend (hup : s.link.state = .up) (hcrystal : s.clock.source = .crystal) : s.cellBoundary = s.grant := by
  have hmay : s.maySend = true := by simp [State.maySend, hup, hcrystal]
  exact if_pos hmay

theorem State.grant_of_motion (h : s.report.motionReady = true) {cell : UpCell} {t : State} (hbuild : s.buildMotion = some (cell, t)) :
    s.grant = t.sendCell cell := by
  rw [State.grant, if_pos h, hbuild]

/-- The first ready class of the cyclic order is granted (R126). -/
theorem State.grant_of_class (hmotion : s.report.motionReady = false) {c : CyclicClass} (hready : s.ready c = true)
    (hfirst : ∀ d ∈ s.sender.last.after.takeWhile (· != c), s.ready d = false) {cell : UpCell} {t : State}
    (hbuild : s.build c = some (cell, t)) : s.grant = { t with sender := ⟨c, some cell⟩ } := by
  have hfind := find?_eq_some_of_takeWhile (CyclicClass.mem_after c s.sender.last) hready hfirst
  rw [State.grant, hmotion, if_neg (by simp), hfind]
  dsimp only
  rw [State.grantCyclic, hbuild]

theorem State.grant_of_none (hmotion : s.report.motionReady = false) (hnone : ∀ c, s.ready c = false) :
    s.grant = s.sendCell .fill := by
  have hfind : s.sender.last.after.find? (fun d => s.ready d) = none := by simp [hnone]
  rw [State.grant, hmotion, if_neg (by simp), hfind]

/-- The VOICE cell built from a queue that holds a block (R97). -/
theorem State.buildVoice_of_ready (h : s.ready .voice = true) : ∃ (first : CaptureEntry) (others : List CaptureEntry),
    s.sound.capture.take 240 = first :: others ∧
    s.buildVoice = some (.voice first.time s.sound.captureGap ((first :: others).map (·.sample)),
      { s with sound := { s.sound with capture := s.sound.capture.drop 240, captureGap := 0, captureFilling := false } }) := by
  have hready : s.voiceReady = true := h
  have hlength : 240 ≤ s.sound.capture.length := of_decide_eq_true hready
  cases hcapture : s.sound.capture with
  | nil => simp [hcapture] at hlength
  | cons first others =>
    refine ⟨first, others.take 239, rfl, ?_⟩
    rw [State.buildVoice, hcapture]
    exact if_pos hready

/-- The ANSWER cell carries the oldest answer (R127, R143). -/
theorem State.buildAnswer_of_ready (h : s.ready .answer = true) : ∃ a : Answer, s.mgmt.answers.head? = some a ∧
    s.buildAnswer = some (.answer a, { s with mgmt := { s.mgmt with answers := s.mgmt.answers.tail } }) := by
  cases hanswers : s.mgmt.answers with
  | nil => simp [State.ready, hanswers] at h
  | cons a rest =>
    refine ⟨a, rfl, ?_⟩
    rw [State.buildAnswer, hanswers]
    rfl

end

end Sys2Proof.Machine

open Sys2Proof Sys2Proof.Machine

/-- Settles O60: the cells are those that the owners build, and the classes are asked in the order of R126. -/
theorem cellBoundaryGrants : Obligations.CellBoundaryGrants := by
  have hexec : ∀ s : State, s.served → exec .cellBoundary s = .next s.cellBoundary := fun s hserved =>
    State.inTurn_of_not_servable State.cellBoundary s (State.servable_of_served hserved)
  refine ⟨fun s hserved hidle => ⟨_, hexec s hserved, ?_⟩, fun s hserved hup hcrystal => ⟨_, hexec s hserved, ?_⟩⟩
  · rw [State.cellBoundary_of_idle hidle]
    exact ⟨rfl, s.wire_changes none⟩
  · rw [State.cellBoundary_of_maySend hup hcrystal]
    refine ⟨fun hmotion => ?motion, fun hmotion c hready hfirst => ?cyclic, fun hmotion hnone => ?fill⟩
    case motion =>
      obtain ⟨base, q, hqueue⟩ : ∃ base q, s.report.queue = base :: q :=
        List.exists_cons_of_ne_nil (by rintro h; simp [Report.motionReady, h] at hmotion)
      have hbuild := State.buildMotion_cons hqueue
      obtain ⟨hsplit, hroom, hwithin, hends⟩ := takeWindow_spec base.time 59 q
      rw [State.grant_of_motion hmotion hbuild]
      exact ⟨base, _, _, by rw [hqueue, List.cons_append, ← hsplit], hroom, hwithin, hends, rfl, rfl, rfl, rfl, rfl,
        (State.buildMotion_changes hbuild).step (State.wire_changes _ _) (by decide) (by decide)⟩
    case cyclic =>
      cases c with
      | voice =>
        obtain ⟨first, others, htake, hbuild⟩ := State.buildVoice_of_ready hready
        rw [State.grant_of_class hmotion hready hfirst hbuild]
        exact ⟨rfl, fun _ => ⟨first, others, htake, rfl, rfl, rfl, rfl,
          (State.buildVoice_changes hbuild).step (State.sender_changes _ _) (by decide) (by decide)⟩, nofun, nofun⟩
      | answer =>
        obtain ⟨a, ha, hbuild⟩ := State.buildAnswer_of_ready hready
        rw [State.grant_of_class hmotion hready hfirst hbuild]
        exact ⟨rfl, nofun, fun _ => ⟨a, ha, rfl, rfl,
          (State.buildAnswer_changes hbuild).step (State.sender_changes _ _) (by decide) (by decide)⟩, nofun⟩
      | notice =>
        have hbuild : s.build .notice = some _ := rfl
        rw [State.grant_of_class hmotion hready hfirst hbuild]
        exact ⟨rfl, nofun, nofun, fun _ => ⟨rfl, rfl,
          (State.buildNotice_changes hbuild).step (State.sender_changes _ _) (by decide) (by decide)⟩⟩
    case fill =>
      rw [State.grant_of_none hmotion hnone]
      exact ⟨rfl, s.wire_changes _⟩
end

section
namespace Sys2Proof.Machine

/-! ### WRITEs of the report record and of the stance limits (R29, R30, R102) -/

/-- The bytes of a written image of two fields. -/
def pairBytes (mask : BitVec 32) (first second : Slot) (ignored : List Slot) (extra : List Byte) : List Byte :=
  (maskedImage mask [first, second] ignored).flatMap (fun v => le 4 v.toNat) ++ extra

/-- A report record as a WRITE leaves it (R29, R149). -/
def Report.picked (mask : BitVec 32) (threshold age : Slot) (x : Report) : Report :=
  { x with
    threshold := pick mask 0 (clamped 1 60 threshold) x.threshold
    ageLimit := pick mask 1 (clamped 100 10000 age) x.ageLimit }

/-- The head's expiry as a WRITE leaves it: it occurs at once when an age limit is written that the head's age has reached (R30). -/
def Report.rewritten (mask : BitVec 32) (threshold age : Slot) (now : Time) (x : Report) : Report :=
  { x.picked mask threshold age with
    expired := x.expired || (mask.getLsbD 1 &&
      x.queue.head?.any fun e => decide ((x.picked mask threshold age).ageLimit ≤ distance e.time now)) }

/-- The Power Unit's limits as a WRITE leaves them (R102, R149). -/
def Power.picked (mask : BitVec 32) (stale ramp : Slot) (p : Power) : Power :=
  { p with
    staleLimit := pick mask 0 (clamped 10 2000 stale) p.staleLimit
    rampTime := pick mask 1 ramp.toNat p.rampTime }

section
variable {mask : BitVec 32} {ignored : List Slot} {extra : List Byte} {r : Request}

theorem Report.written_eq (threshold age : Slot) (x : Report) :
    x.written mask (pairBytes mask threshold age ignored extra) = .ok (x.picked mask threshold age) := by
  unfold Report.written pairBytes
  rw [maskedField_maskedImage (v := clamped 1 60 threshold) (by simp) (fun _ => rfl),
    maskedField_maskedImage (v := clamped 100 10000 age) (by simp) (fun _ => rfl)]
  rfl

theorem Report.reage_picked (threshold age : Slot) (now : Time) (x : Report) :
    (if mask.getLsbD 1 then (x.picked mask threshold age).reage now else x.picked mask threshold age) =
      x.rewritten mask threshold age now := by
  unfold Report.rewritten
  cases mask.getLsbD 1 with
  | false => simp [Report.picked]
  | true =>
    cases hqueue : x.queue <;> simp [Report.reage, Report.picked, Report.aged, hqueue]

theorem decodeRampTime_of_valid {ramp : Slot} (h : ramp.toNat ≤ 1000 ∧ ramp.toNat % 10 = 0) : decodeRampTime ramp = some ramp.toNat := by
  simp [decodeRampTime, decodeIn, h]

theorem decodeRampTime_of_invalid {ramp : Slot} (h : 1000 < ramp.toNat ∨ ramp.toNat % 10 ≠ 0) : decodeRampTime ramp = none := by
  rcases h with h | h
  · simp [decodeRampTime, decodeIn, h]
  · unfold decodeRampTime decodeIn
    split <;> simp [h]

theorem Power.limitsWritten_of_valid (stale : Slot) {ramp : Slot}
    (h : mask.getLsbD 1 = false ∨ ramp.toNat ≤ 1000 ∧ ramp.toNat % 10 = 0) (p : Power) :
    p.limitsWritten mask (pairBytes mask stale ramp ignored extra) = .ok (p.picked mask stale ramp) := by
  have hramp : mask.getLsbD 1 = true → decodeRampTime ramp = some ramp.toNat := fun hm =>
    decodeRampTime_of_valid (h.resolve_left (by simp [hm]))
  unfold Power.limitsWritten pairBytes
  rw [maskedField_maskedImage (v := clamped 10 2000 stale) (by simp) (fun _ => rfl), maskedField_maskedImage (by simp) hramp]
  rfl

theorem Power.limitsWritten_of_invalid (stale : Slot) {ramp : Slot} (hmask : mask.getLsbD 1 = true)
    (h : 1000 < ramp.toNat ∨ ramp.toNat % 10 ≠ 0) (p : Power) :
    p.limitsWritten mask (pairBytes mask stale ramp ignored extra) = .error 1 := by
  have hramp : decodeRampTime [stale, ramp][1] = none := decodeRampTime_of_invalid h
  unfold Power.limitsWritten pairBytes
  rw [maskedField_maskedImage (v := clamped 10 2000 stale) (by simp) (fun _ => rfl), maskedField_error (by simp) hmask hramp]
  rfl

theorem writeReportAct_eq (hmask : mask.toNat < 2 ^ 2) {threshold age : Slot}
    (hoperands : r.operands = writeOperands 6 0 mask (maskedImage mask [threshold, age] ignored) extra) (s : State) :
    writeReportAct r s = doneWrite .report 0 { s with report := s.report.rewritten mask threshold age s.clock.now } := by
  have hlength : (maskedImage mask [threshold, age] ignored).length = 2 := by simp [maskedImage_length]
  have hcount : Table.report.writableSlots ≤ s.fieldCount .report := show 2 ≤ 2 from le_rfl
  rw [writeReportAct, writeAct_of_write hoperands hcount hlength hmask (by decide) (by decide) (fun _ _ => rfl)]
  refine (congrArg (ranged · _) (Report.written_eq threshold age s.report)).trans ?_
  rw [← Report.reage_picked]
  rfl

theorem writeStanceLimitsAct_eq (hmask : mask.toNat < 2 ^ 2) {stale ramp : Slot}
    (hoperands : r.operands = writeOperands 8 0 mask (maskedImage mask [stale, ramp] ignored) extra) (s : State) :
    writeStanceLimitsAct r s = ranged (s.power.limitsWritten mask (pairBytes mask stale ramp ignored extra)) fun p =>
      doneWrite .stanceLimits 0 (s.withPower p) := by
  have hlength : (maskedImage mask [stale, ramp] ignored).length = 2 := by simp [maskedImage_length]
  have hcount : Table.stanceLimits.writableSlots ≤ s.fieldCount .stanceLimits := show 2 ≤ 2 from le_rfl
  rw [writeStanceLimitsAct, writeAct_of_write hoperands hcount hlength hmask (by decide) (by decide) (fun _ _ => rfl)]
  rfl

end

theorem State.withPower_picked_changes (mask : BitVec 32) (stale ramp : Slot) (s : State) :
    ChangesOnly [.stanceLimits] s (s.withPower (s.power.picked mask stale ramp)) := by
  intro p hp
  cases p <;> simp_all [Part.same, State.withPower, Power.picked]

theorem State.report_changes (x : Report) (s : State) : ChangesOnly [.reportRecord, .sampleQueue] s { s with report := x } := by
  intro p hp
  cases p <;> simp_all [Part.same]

end Sys2Proof.Machine

open Sys2Proof Sys2Proof.Machine

/-- Settles O42: the WRITE comes to the record's two fields; level fields are clamped, and only a ramp time can be refused. -/
theorem writeReportAndLimits : Obligations.WriteReportAndLimits := by
  refine ⟨fun mask threshold age ignored extra hmask r hop hoperands rest s h => ?report,
    fun mask stale ramp ignored extra hmask r hop hoperands rest s h => ?limits⟩
  case report =>
    have htable : r.table = some .report := Request.table_of_write hoperands
    have hact := writeReportAct_eq hmask hoperands (s.dequeued rest)
    have hchanges := (s.dequeued rest).report_changes (s.report.rewritten mask threshold age s.clock.now)
    refine ⟨_, exec_atService rfl h (by simp [Request.service, hop, htable]), ?_⟩
    rw [State.afterService_done hact]
    exact ⟨rfl, rfl, rfl, rfl, rfl, rfl, Answered.place hchanges (by decide) _, hchanges.place (by decide) _⟩
  case limits =>
    have htable : r.table = some .stanceLimits := Request.table_of_write hoperands
    have hact := writeStanceLimitsAct_eq hmask hoperands (s.dequeued rest)
    refine ⟨_, exec_atService rfl h (by simp [Request.service, hop, htable]), fun hbit hinvalid => ?range, fun hvalid => ?written⟩
    case range =>
      rw [Power.limitsWritten_of_invalid stale hbit hinvalid] at hact
      exact State.afterService_refused hact
    case written =>
      rw [Power.limitsWritten_of_valid stale hvalid] at hact
      have hchanges := (s.dequeued rest).withPower_picked_changes mask stale ramp
      rw [State.afterService_done hact]
      exact ⟨rfl, rfl, Answered.place hchanges (by decide) _, hchanges.place (by decide) _⟩
end

section
namespace Sys2Proof.Machine

/-! ### The slots of the Frame Store (R41, R42, R46, R51, R52) -/

theorem getElem_set_fin_of_ne {α : Type} {n : Nat} {i j : Fin n} (h : j ≠ i) (v : Vector α n) (x : α) :
    (v.set i.val x)[j] = v[j] := Vector.getElem_set_ne _ _ fun hv => h (Fin.ext hv.symm)

@[simp] theorem State.setSlot_slot_self (i : Fin 3) (f : FrameSlot) (s : State) : (s.setSlot i f).frames.slots[i] = f :=
  Vector.getElem_set_self _

theorem State.setSlot_slot_of_ne {i j : Fin 3} (h : j ≠ i) (f : FrameSlot) (s : State) :
    (s.setSlot i f).frames.slots[j] = s.frames.slots[j] := getElem_set_fin_of_ne h _ f

/-- A slot set to the record it has. -/
theorem State.setSlot_same (i : Fin 3) (s : State) : s.setSlot i s.frames.slots[i] = s := by
  have hslots : s.frames.slots.set i.val s.frames.slots[i] = s.frames.slots := Vector.set_getElem_self _
  rw [State.setSlot, hslots]

@[simp] theorem State.setSlot_outstanding (i j : Fin 3) (f : FrameSlot) (s : State) :
    (s.setSlot i f).outstanding j = s.outstanding j := rfl

theorem State.phase_of_slotIn {ph : SlotPhase} {i : Fin 3} {s : State} (h : s.slotIn ph = some i) : s.frames.slots[i].phase = ph := by
  simpa using List.find?_some h

theorem State.slotIn_eq_none_iff {ph : SlotPhase} {s : State} : s.slotIn ph = none ↔ ∀ i : Fin 3, s.frames.slots[i].phase ≠ ph := by
  simp [State.slotIn]

theorem State.slotIn_congr {ph : SlotPhase} {s t : State} (h : t.frames.slots = s.frames.slots) : t.slotIn ph = s.slotIn ph := by
  rw [State.slotIn, h, State.slotIn]

/-- A slot that leaves and enters other states does not change which slot is found in this one. -/
theorem State.slotIn_setSlot_of_ne {ph : SlotPhase} {i : Fin 3} {f : FrameSlot} {s : State} (hold : s.frames.slots[i].phase ≠ ph)
    (hnew : f.phase ≠ ph) : (s.setSlot i f).slotIn ph = s.slotIn ph := by
  refine congrArg (List.find? · _) (funext fun j => ?_)
  rcases eq_or_ne j i with rfl | hne
  · rw [State.setSlot_slot_self, beq_eq_false_iff_ne.2 hold, beq_eq_false_iff_ne.2 hnew]
  · rw [State.setSlot_slot_of_ne hne]

/-- The lowest-numbered free slot, if one is free (R46). -/
theorem State.freeSlot_eq_some {k : Fin 3} {s : State} (hfree : s.slotFree k = true) (hlow : ∀ j : Fin 3, j < k → s.slotFree j = false) :
    s.freeSlot = some k := by
  have hfin : List.finRange 3 = [0, 1, 2] := by decide
  rw [State.freeSlot, hfin]
  match k with
  | 0 => simp [hfree]
  | 1 => simp [hfree, hlow 0 (by decide)]
  | 2 => simp [hfree, hlow 0 (by decide), hlow 1 (by decide)]

theorem State.freeSlot_eq_none_iff {s : State} : s.freeSlot = none ↔ ∀ k : Fin 3, s.slotFree k = false := by
  simp [State.freeSlot]

/-! ### Frames superseded (R51, R52, R57) -/

/-- The slot in a state, if any, is superseded. -/
def State.supersedeIn (ph : SlotPhase) (s : State) : State :=
  match s.slotIn ph with
  | some i => s.supersede i
  | none => s

theorem State.supersedeIn_slots (ph : SlotPhase) (s : State) :
    (s.supersedeIn ph).frames.slots = clearSlot (s.slotIn ph) s.frames.slots := by
  unfold State.supersedeIn
  split <;> rename_i h <;> rw [h] <;> rfl

theorem State.supersedeIn_superseded (ph : SlotPhase) (s : State) :
    (s.supersedeIn ph).frames.superseded = s.frames.superseded + oneIf (s.slotIn ph) := by
  unfold State.supersedeIn
  split <;> rename_i h <;> rw [h]
  · rfl
  · exact (BitVec.add_zero _).symm

/-- Superseding a slot in one state leaves the slots in the others. -/
theorem State.supersedeIn_slot_of_ne {ph : SlotPhase} {j : Fin 3} {s : State} (h : s.frames.slots[j].phase ≠ ph) :
    (s.supersedeIn ph).frames.slots[j] = s.frames.slots[j] := by
  unfold State.supersedeIn
  split
  next i hi => exact State.setSlot_slot_of_ne (fun hj => h (by rw [hj, State.phase_of_slotIn hi])) _ s
  next => rfl

theorem State.supersedeIn_slotIn {ph ph' : SlotPhase} (hne : ph' ≠ ph) (hempty : ph' ≠ .empty) (s : State) :
    (s.supersedeIn ph).slotIn ph' = s.slotIn ph' := by
  unfold State.supersedeIn
  split
  next i hi =>
    exact State.slotIn_setSlot_of_ne (f := FrameSlot.emptied) (fun h => hne (h.symm.trans (State.phase_of_slotIn hi))) hempty.symm
  next => rfl

@[simp] theorem State.supersedeIn_outstanding (ph : SlotPhase) (i : Fin 3) (s : State) :
    (s.supersedeIn ph).outstanding i = s.outstanding i := by
  unfold State.supersedeIn
  split <;> rfl

@[simp] theorem State.supersedeIn_events (ph : SlotPhase) (s : State) : (s.supersedeIn ph).events = s.events := by
  unfold State.supersedeIn
  split <;> rfl

@[simp] theorem State.supersedeIn_scanout (ph : SlotPhase) (s : State) : (s.supersedeIn ph).scanout = s.scanout := by
  unfold State.supersedeIn
  split <;> rfl

/-! ### The completion of a CLOSING slot (R52) -/

theorem State.allBands_iff {f : FrameSlot} {s : State} : s.allBands f = true ↔ BandsComplete f s := by
  simp [State.allBands, BandsComplete]

theorem State.completeSlot_of_complete {i : Fin 3} {s : State} (h : BandsComplete s.frames.slots[i] s) :
    s.completeSlot i = (s.supersedeIn .ready).setSlot i { s.frames.slots[i] with phase := .ready } :=
  if_pos (State.allBands_iff.2 h)

theorem State.completeSlot_of_incomplete {i : Fin 3} {s : State} (h : ¬ BandsComplete s.frames.slots[i] s) :
    s.completeSlot i = (s.emptySlot i).raise .frameDiscarded := if_neg fun hall => h (State.allBands_iff.1 hall)

/-- The completion of slot `i` in `m`, read against the state `s` that an event found: `m` has closed the slot with record `f` and no kind
is raised yet. -/
theorem State.completeSlot_completes {i : Fin 3} {f : FrameSlot} {slots : Vector FrameSlot 3} {superseded : Count} {s m : State}
    (hslots : m.frames.slots = slots.set i.val { f with phase := .closing }) (hsuperseded : m.frames.superseded = superseded)
    (hscanout : m.scanout = s.scanout) (hevents : m.events = s.events) (hready : m.slotIn .ready = s.slotIn .ready)
    (hkept : ∀ r, s.slotIn .ready = some r → r ≠ i) : Completes i f slots superseded s (m.completeSlot i) 0 := by
  have hslot : m.frames.slots[i] = { f with phase := .closing } := by
    rw [hslots]
    exact Vector.getElem_set_self _
  have hbands : BandsComplete m.frames.slots[i] m ↔ BandsComplete f s := by rw [hslot, BandsComplete, hscanout]; rfl
  refine ⟨fun hcomplete => ?complete, fun hincomplete => ?incomplete⟩
  case complete =>
    rw [State.completeSlot_of_complete (hbands.2 hcomplete), hslot]
    refine ⟨?_, ?_, (EventsRaised.refl s).congr rfl ((m.supersedeIn_events .ready).trans hevents)⟩
    · rw [State.setSlot_slots, State.supersedeIn_slots, hready, hslots]
      cases hr : s.slotIn .ready with
      | none => exact Vector.set_set ..
      | some r =>
        have hne : i.val ≠ r.val := fun h => hkept r hr (Fin.ext h.symm)
        simp only [clearSlot]
        rw [Vector.set_comm _ _ hne, Vector.set_set]
    · rw [State.setSlot_frames_superseded, State.supersedeIn_superseded, hready, hsuperseded]
  case incomplete =>
    rw [State.completeSlot_of_incomplete fun h => hincomplete (hbands.1 h)]
    refine ⟨(congrArg (·.set i.val FrameSlot.emptied) hslots).trans (Vector.set_set ..), hsuperseded, ?_⟩
    have hraised := (EventsRaised.raise .frameDiscarded (m.emptySlot i)).congr hevents.symm rfl
    simpa using hraised

end Sys2Proof.Machine
end

section
namespace Sys2Proof.Machine

/-! ### Cells that arrive (R123, R135 to R137) -/

/-- A cell found while cells are framed and no request can be served acts at once. -/
theorem State.inTurn_whenReceiving {s : State} (hserved : s.served) (hreceiving : s.receiving = true) (f : State → State) :
    s.inTurn (fun s => s.whenReceiving f) = .next (f s) := by
  rw [State.inTurn_of_not_servable _ s (State.servable_of_served hserved)]
  exact congrArg _ (if_pos hreceiving)

theorem exec_fill {s : State} (hserved : s.served) (hreceiving : s.receiving = true) (i : Fin 32) :
    exec (.fill i) s = .next s.goodHeader := State.inTurn_whenReceiving hserved hreceiving State.goodHeader

@[simp] theorem State.goodHeader_streams (s : State) : s.goodHeader.streams = s.streams := s.goodHeader_changes .streams (by decide)
@[simp] theorem State.goodHeader_frames (s : State) : s.goodHeader.frames = s.frames := s.goodHeader_changes.frames_eq (by decide)
@[simp] theorem State.goodHeader_scanout (s : State) : s.goodHeader.scanout = s.scanout := s.goodHeader_changes.scanout_eq (by decide)

/-- The part after the good header of a cell that is handed on. -/
def State.handed (s : State) : State := s.goodHeader.handOn

@[simp] theorem State.handed_streams (s : State) : s.handed.streams = s.streams := s.goodHeader_streams
@[simp] theorem State.handed_frames (s : State) : s.handed.frames = s.frames := s.goodHeader_frames
@[simp] theorem State.handed_scanout (s : State) : s.handed.scanout = s.scanout := s.goodHeader_scanout

@[simp] theorem State.handed_panel (e : Eye) (s : State) : s.handed.panel e = s.panel e := by
  cases e <;> simp [State.panel]

@[simp] theorem State.handed_slotIn (ph : SlotPhase) (s : State) : s.handed.slotIn ph = s.slotIn ph :=
  State.slotIn_congr (by rw [State.handed_frames])

@[simp] theorem State.handed_outstanding (i : Fin 3) (s : State) : s.handed.outstanding i = s.outstanding i := by
  rw [State.outstanding, State.handed_frames, State.outstanding]

@[simp] theorem State.handed_freeSlot (s : State) : s.handed.freeSlot = s.freeSlot := by
  simp only [State.freeSlot, State.slotFree, State.handed_frames, State.handed_outstanding]

theorem State.arrive_of_admitted {i : Fin 32} {admits : StreamEntry → Bool} {s : State} (h : admits s.streams[i] = true)
    (deliver : State → Bool × State) :
    s.arrive i admits (fun _ u => deliver u) = (deliver s.handed).2.countCell i (deliver s.handed).1 :=
  if_pos (show admits s.handed.streams[i] = true by rwa [State.handed_streams])

/-- An admitted cell whose block answers `r` is handed on, changes what its block changes, and is counted by the answer (R123, R137). -/
structure Delivered (i : Fin 32) (P : List Part) (r : Bool × State) (s t : State) : Prop where
  handedOn : HandedOn s.goodHeader t
  changes : ChangesOnly (handOnParts ++ P) s.goodHeader t
  counted : CountedOn i r.1 s t
  frames : t.frames = r.2.frames
  events : t.events = r.2.events

theorem State.countCell_delivered {P : List Part} {r : Bool × State} {s : State} (hr : ChangesOnly P s.handed r.2)
    (hP : ∀ p ∈ [Part.link, .lane, .counters, .streams], p ∉ P) (i : Fin 32) : Delivered i P r s (r.2.countCell i r.1) where
  handedOn := hr.link_eq fun p hp => hP p (by simp only [List.mem_cons, List.not_mem_nil, or_false] at hp ⊢; tauto)
  changes := ((s.goodHeader.handOn_changes.step hr (R := handOnParts ++ P) (List.subset_append_of_subset_left _ (by decide))
    (List.subset_append_right _ _))).step (State.countCell_changes _ _ _) (List.Subset.refl _)
      (List.subset_append_of_subset_left _ (by decide))
  counted := by
    have hstreams : r.2.streams = s.streams := (hr .streams (hP _ (by simp))).trans s.handed_streams
    rw [CountedOn, State.countCell, hstreams]
  frames := rfl
  events := rfl

/-! ### PIC_OPEN (R45, R46) -/

section
variable (f : BitVec 16) (noShift : Bool) (time : Time) {s : State}

theorem State.openFrame_of_filling {k : Fin 3} (h : s.slotIn .filling = some k) :
    s.openFrame f noShift time = (true, (s.raise .frameAbandoned).setSlot k (.opened f noShift time)) := by
  rw [State.openFrame, h]

theorem State.openFrame_of_free (h : s.slotIn .filling = none) {k : Fin 3} (hk : s.freeSlot = some k) :
    s.openFrame f noShift time = (true, s.setSlot k (.opened f noShift time)) := by
  rw [State.openFrame, h, hk]

theorem State.openFrame_of_full (h : s.slotIn .filling = none) (hfull : s.freeSlot = none) :
    s.openFrame f noShift time = (false, s.raise .frameTurnedAway) := by
  rw [State.openFrame, h, hfull]

end

/-! ### PIC_BAND (R47, R48) -/

/-- A band is accepted by the FILLING slot of its frame, for an eye and a band that there are (R47). -/
theorem State.bandTarget_eq_some_iff {f : BitVec 16} {eye band : Byte} {s : State} {k : Fin 3} {e : Eye} :
    s.bandTarget f eye band = some (k, e) ↔ s.slotIn .filling = some k ∧ s.frames.slots[k].frame = some f ∧ eyeOf eye = some e ∧
      band.toNat < (s.panel e).bandCount := by
  unfold State.bandTarget
  cases s.slotIn .filling with
  | none => simp
  | some k' =>
    cases eyeOf eye with
    | none => simp
    | some e' =>
      simp only [Option.some.injEq]
      constructor
      · intro h
        split at h
        next hfits =>
          obtain ⟨rfl, rfl⟩ := Prod.mk.inj (Option.some.inj h)
          exact ⟨rfl, hfits.1, rfl, hfits.2⟩
        next => cases h
      · rintro ⟨rfl, hframe, rfl, hband⟩
        exact if_pos ⟨hframe, hband⟩

/-- The write that an accepted band issues into its place (R44, R48). -/
def State.bandWrite (k : Fin 3) (e : Eye) (f : BitVec 16) (band : Byte) (rows : List Byte) (s : State) : BandWrite :=
  ⟨k, e, band.toNat, f, bandPlace k e band.toNat (s.panel e), rows⟩

section
variable {f : BitVec 16} {eye band : Byte} {s : State} (rows : List Byte)

theorem State.acceptBand_of_target {k : Fin 3} {e : Eye} (h : s.bandTarget f eye band = some (k, e)) :
    s.acceptBand f eye band rows =
      (true, { s with frames := { s.frames with writes := s.frames.writes ++ [s.bandWrite k e f band rows] } }) := by
  rw [State.acceptBand, h]
  rfl

theorem State.acceptBand_of_stray (h : s.bandTarget f eye band = none) : s.acceptBand f eye band rows = (false, s) := by
  rw [State.acceptBand, h]

end

@[simp] theorem State.handed_bandTarget (f : BitVec 16) (eye band : Byte) (s : State) :
    s.handed.bandTarget f eye band = s.bandTarget f eye band := by
  simp only [State.bandTarget, State.handed_slotIn, State.handed_frames, State.handed_panel]

theorem State.setCounters_changes (c : LinkCounters) (s : State) :
    ChangesOnly [.counters] s (s.setLink { s.link with counters := c }) := by
  intro p hp
  cases p <;> simp_all [Part.same]

/-! ### PIC_CLOSE (R50 to R52) -/

/-- The FILLING slot `k` closed, a frame that was closing superseded (R51). -/
def State.closing (k : Fin 3) (s : State) : State :=
  (s.supersedeIn .closing).setSlot k { s.frames.slots[k] with phase := .closing }

theorem State.closing_slots (k : Fin 3) (s : State) : (s.closing k).frames.slots =
    (clearSlot (s.slotIn .closing) s.frames.slots).set k.val { s.frames.slots[k] with phase := .closing } := by
  rw [State.closing, State.setSlot_slots, State.supersedeIn_slots]

theorem State.closing_superseded (k : Fin 3) (s : State) :
    (s.closing k).frames.superseded = s.frames.superseded + oneIf (s.slotIn .closing) := s.supersedeIn_superseded .closing

@[simp] theorem State.closing_events (k : Fin 3) (s : State) : (s.closing k).events = s.events := s.supersedeIn_events .closing
@[simp] theorem State.closing_scanout (k : Fin 3) (s : State) : (s.closing k).scanout = s.scanout := s.supersedeIn_scanout .closing

@[simp] theorem State.closing_outstanding (k i : Fin 3) (s : State) : (s.closing k).outstanding i = s.outstanding i :=
  s.supersedeIn_outstanding .closing i

theorem State.closing_slotIn_ready {k : Fin 3} {s : State} (h : s.slotIn .filling = some k) :
    (s.closing k).slotIn .ready = s.slotIn .ready := by
  have hfilling := State.phase_of_slotIn h
  have hkept : (s.supersedeIn .closing).frames.slots[k].phase = .filling := by
    rw [State.supersedeIn_slot_of_ne (by rw [hfilling]; decide), hfilling]
  rw [State.closing, State.slotIn_setSlot_of_ne (by rw [hkept]; decide) (by simp), State.supersedeIn_slotIn (by decide) (by decide)]

section
variable {f : BitVec 16} {s : State}

theorem State.closeFrame_of_filling {k : Fin 3} (h : s.slotIn .filling = some k) (hframe : s.frames.slots[k].frame = some f) :
    s.closeFrame f = (true, if s.outstanding k = 0 then (s.closing k).completeSlot k else s.closing k) := by
  rw [State.closeFrame, h]
  refine (if_pos hframe).trans (congrArg (Prod.mk true) ?_)
  rw [← State.closing_outstanding k k s]
  rfl

theorem State.closeFrame_of_stray (h : ∀ k, s.slotIn .filling = some k → s.frames.slots[k].frame ≠ some f) :
    s.closeFrame f = (false, s) := by
  unfold State.closeFrame
  split
  · rfl
  next k hk => exact if_neg (h k hk)

end

/-- A completion is read off the slots, the superseded count and the Event Unit. -/
theorem Completes.congr {k : Fin 3} {f : FrameSlot} {slots : Vector FrameSlot 3} {superseded : Count} {s s' t t' : State}
    {kinds : EventSet} (h : Completes k f slots superseded s t kinds) (hslots : s'.frames.slots = s.frames.slots)
    (hscanout : s'.scanout = s.scanout) (hs : s'.events = s.events) (ht : t'.frames = t.frames) (hevents : t'.events = t.events) :
    Completes k f slots superseded s' t' kinds := by
  obtain ⟨hcomplete, hincomplete⟩ := h
  have hbands : BandsComplete f s' ↔ BandsComplete f s := by rw [BandsComplete, hscanout, BandsComplete]
  rw [Completes, hbands, ht, State.slotIn_congr hslots]
  refine ⟨fun hb => ?_, fun hb => ?_⟩
  · obtain ⟨hslots, hsuperseded, hraised⟩ := hcomplete hb
    exact ⟨hslots, hsuperseded, hraised.congr hs hevents⟩
  · obtain ⟨hslots, hsuperseded, hraised⟩ := hincomplete hb
    exact ⟨hslots, hsuperseded, hraised.congr hs hevents⟩

end Sys2Proof.Machine

open Sys2Proof Sys2Proof.Machine

/-- Settles O22: the opening's three cases, at the state that the good header and the hand-on leave. -/
theorem picOpenTakesSlot : Obligations.PicOpenTakesSlot := by
  intro i f flags time s hserved hreceiving hadmits
  have hdelivered := State.countCell_delivered (s.handed.openFrame_changes f (flags.getLsbD 0) time) (by decide) i
  refine ⟨_, _, (State.inTurn_whenReceiving hserved hreceiving _).trans (congrArg _ (State.arrive_of_admitted hadmits _)),
    exec_fill hserved hreceiving 0, hdelivered.handedOn, hdelivered.changes, fun k hk => ?filling, fun hnone => ⟨fun k hfree hlow => ?free,
    fun hfull => ?full⟩⟩
  case filling =>
    rw [State.openFrame_of_filling f _ time (s.handed_slotIn .filling ▸ hk)] at hdelivered ⊢
    refine ⟨?_, hdelivered.counted, EventsRaised.raise .frameAbandoned s.goodHeader⟩
    rw [hdelivered.frames, State.setSlot_slots, State.raise_frames, State.handed_frames]
    rfl
  case free =>
    rw [State.openFrame_of_free f _ time (s.handed_slotIn .filling ▸ hnone)
      (s.handed_freeSlot ▸ State.freeSlot_eq_some hfree hlow)] at hdelivered ⊢
    refine ⟨?_, hdelivered.counted, EventsRaised.refl s.goodHeader⟩
    rw [hdelivered.frames, State.setSlot_slots, State.handed_frames]
    rfl
  case full =>
    rw [State.openFrame_of_full f _ time (s.handed_slotIn .filling ▸ hnone)
      (s.handed_freeSlot ▸ State.freeSlot_eq_none_iff.2 hfull)] at hdelivered ⊢
    exact ⟨congrArg (·.slots) s.handed_frames, hdelivered.counted, EventsRaised.raise .frameTurnedAway s.goodHeader⟩

/-- Settles O23: a band that keeps the length check is delivered, and accepted if it has a target; another is a runt. -/
theorem picBandIssuesWrite : Obligations.PicBandIssuesWrite := by
  intro i f eye band rows s hserved hreceiving
  refine ⟨fun hfits hlength hadmits => ?delivered, fun hfits hlength => ?runt⟩
  case delivered =>
    have hexec : exec (.picBand i f eye band rows) s = .next (s.arrive i (admitsKind .picture) fun _ u => u.acceptBand f eye band rows) :=
      (State.inTurn_whenReceiving hserved hreceiving _).trans (congrArg _ (if_pos (by rw [hfits, hlength]; rfl)))
    have hdelivered := State.countCell_delivered (s.handed.acceptBand_changes f eye band rows) (by decide) i
    refine ⟨_, _, hexec.trans (congrArg _ (State.arrive_of_admitted hadmits _)), exec_fill hserved hreceiving 0, hdelivered.handedOn,
      hdelivered.changes, fun k e hk hframe he hband => ?accepted, fun hstray => ?stray⟩
    case accepted =>
      have htarget := State.bandTarget_eq_some_iff.2 ⟨hk, hframe, he, hband⟩
      rw [State.acceptBand_of_target rows (s.handed_bandTarget f eye band ▸ htarget)] at hdelivered ⊢
      refine ⟨?_, hdelivered.counted⟩
      rw [hdelivered.frames, State.handed_frames, State.bandWrite, State.handed_panel]
      cases e <;> rfl
    case stray =>
      have htarget : s.bandTarget f eye band = none := Option.eq_none_iff_forall_ne_some.2 fun ⟨k, e⟩ h =>
        hstray ⟨k, e, State.bandTarget_eq_some_iff.1 h⟩
      rw [State.acceptBand_of_stray rows (s.handed_bandTarget f eye band ▸ htarget)] at hdelivered ⊢
      exact ⟨congrArg (·.writes) s.handed_frames, hdelivered.counted⟩
  case runt =>
    have hexec : exec (.picBand i f eye band rows) s = .next (s.discardCell .runt) :=
      (State.inTurn_whenReceiving hserved hreceiving _).trans (congrArg _ (if_neg (by simp [hlength])))
    refine ⟨_, _, hexec, exec_fill hserved hreceiving 0, rfl, ?_, ?_⟩
    · exact (EventsRaised.raise .cellErrors _).congr rfl rfl
    · exact (s.goodHeader.setCounters_changes _).step (State.raise_changes .cellErrors _) (by decide) (by decide)

/-- Settles O24: the FILLING slot of the frame closes, and completes at once without writes outstanding; any other close is stray. -/
theorem picCloseCloses : Obligations.PicCloseCloses := by
  intro i f s hserved hreceiving hadmits
  have hdelivered := State.countCell_delivered (s.handed.closeFrame_changes f) (by decide) i
  refine ⟨_, _, (State.inTurn_whenReceiving hserved hreceiving _).trans (congrArg _ (State.arrive_of_admitted hadmits _)),
    exec_fill hserved hreceiving 0, hdelivered.handedOn, hdelivered.changes, fun k hk hframe => ?closes, fun hstray => ?stray⟩
  case closes =>
    have hfilling : s.handed.slotIn .filling = some k := s.handed_slotIn .filling ▸ hk
    rw [State.closeFrame_of_filling hfilling (by rwa [State.handed_frames]), State.handed_outstanding] at hdelivered ⊢
    refine ⟨hdelivered.counted, fun hwrites => ?waits, fun hnone => ?completes⟩
    case waits =>
      rw [if_neg hwrites, State.countCell_frames, State.closing_slots, State.closing_superseded, State.handed_slotIn, State.handed_frames]
      exact ⟨rfl, rfl, (EventsRaised.refl s.goodHeader).congr rfl (s.handed.closing_events k)⟩
    case completes =>
      rw [if_pos hnone]
      have hready : ∀ r, s.handed.slotIn .ready = some r → r ≠ k := by
        rintro r hr rfl
        have := (State.phase_of_slotIn hr).symm.trans (State.phase_of_slotIn hfilling)
        cases this
      have hcompletes := State.completeSlot_completes (s.handed.closing_slots k) (s.handed.closing_superseded k) (s.handed.closing_scanout k)
        (s.handed.closing_events k) (State.closing_slotIn_ready hfilling) hready
      rw [State.handed_slotIn, State.handed_frames] at hcompletes
      exact hcompletes.congr rfl rfl rfl rfl rfl
  case stray =>
    have hnone : s.handed.closeFrame f = (false, s.handed) :=
      State.closeFrame_of_stray fun k hk => by
        rw [State.handed_frames]
        exact hstray k (s.handed_slotIn .filling ▸ hk)
    rw [hnone] at hdelivered ⊢
    exact ⟨hdelivered.counted, congrArg (·.slots) s.handed_frames, congrArg (·.superseded) s.handed_frames, EventsRaised.refl s.goodHeader⟩
end

section
namespace Sys2Proof.Machine

/-! ### BAND_WRITE_COMPLETE (R48, R49, R52) -/

/-- A band's index joins the slot's set when the slot still fills or closes the write's frame (R49). -/
def FrameSlot.joined (w : BandWrite) (f : FrameSlot) : FrameSlot :=
  if (f.phase = .filling ∨ f.phase = .closing) ∧ f.frame = some w.frame then f.joinBand w.eye w.band else f

theorem FrameSlot.joinBand_eq (eye : Eye) (band : Nat) (f : FrameSlot) : f.joinBand eye band =
    { f with left := (f.joinBand eye band).left, right := (f.joinBand eye band).right } := by
  cases eye <;> rfl

theorem FrameSlot.joined_phase (w : BandWrite) (f : FrameSlot) : (f.joined w).phase = f.phase := by
  unfold FrameSlot.joined
  split
  · rw [FrameSlot.joinBand_eq]
  · rfl

/-- The writes in flight and the contents of the DRAM replaced. -/
def State.withStore (writes : List BandWrite) (dram : Memory) (s : State) : State :=
  { s with frames := { s.frames with writes := writes, dram := dram } }

/-- The oldest write `w` of slot `i` has landed, `rest` are the writes that remain; the slot has yet to be judged (R48, R49). -/
def State.landed (i : Fin 3) (w : BandWrite) (rest : List BandWrite) (s : State) : State :=
  (s.withStore rest (s.frames.dram.store w.place w.rows)).setSlot i (s.frames.slots[i].joined w)

theorem State.completeWrite_of_none {i : Fin 3} {s : State} (h : takeWrite i s.frames.writes = none) : s.completeWrite i = s := by
  rw [State.completeWrite, h]

theorem State.completeWrite_of_some {i : Fin 3} {w : BandWrite} {rest : List BandWrite} {s : State}
    (h : takeWrite i s.frames.writes = some (w, rest)) : s.completeWrite i =
      if s.frames.slots[i].phase = .closing ∧ (s.landed i w rest).outstanding i = 0 then (s.landed i w rest).completeSlot i
      else s.landed i w rest := by
  have hlanded : s.landed i w rest =
      if ((s.frames.slots[i].phase == .filling || s.frames.slots[i].phase == .closing) && s.frames.slots[i].frame == some w.frame) = true then
        (s.withStore rest (s.frames.dram.store w.place w.rows)).setSlot i (s.frames.slots[i].joinBand w.eye w.band)
      else s.withStore rest (s.frames.dram.store w.place w.rows) := by
    simp only [Bool.and_eq_true, Bool.or_eq_true, beq_iff_eq]
    unfold State.landed FrameSlot.joined
    split
    · rfl
    · exact (s.withStore rest (s.frames.dram.store w.place w.rows)).setSlot_same i
  rw [State.completeWrite, h, hlanded]
  rfl

/-- The writes of one slot complete in order: the oldest leaves, whatever stands before it (R48). -/
theorem takeWrite_append {i : Fin 3} {w : BandWrite} {before : List BandWrite} (hbefore : ∀ x ∈ before, x.slot ≠ i) (hw : w.slot = i)
    (after : List BandWrite) : takeWrite i (before ++ w :: after) = some (w, before ++ after) := by
  induction before with
  | nil => exact if_pos hw
  | cons x before ih =>
    obtain ⟨hx, hbefore⟩ := List.forall_mem_cons.1 hbefore
    exact (if_neg hx).trans (congrArg (Option.map _) (ih hbefore))

theorem State.completeWrite_frames {i : Fin 3} {w : BandWrite} {rest : List BandWrite} {s : State}
    (h : takeWrite i s.frames.writes = some (w, rest)) :
    (s.completeWrite i).frames.writes = rest ∧ (s.completeWrite i).frames.dram = s.frames.dram.store w.place w.rows := by
  rw [State.completeWrite_of_some h]
  split
  · have hcompletes := (s.landed i w rest).completeSlot_changes i
    exact ⟨hcompletes .writes (by decide), hcompletes .dram (by decide)⟩
  · exact ⟨rfl, rfl⟩

/-- Nothing of slot `i` is left among the writes. -/
theorem State.outstanding_eq_zero_iff {i : Fin 3} {s : State} : s.outstanding i = 0 ↔ ∀ x ∈ s.frames.writes, x.slot ≠ i := by
  simp [State.outstanding]

end Sys2Proof.Machine

open Sys2Proof Sys2Proof.Machine

/-- Settles O25: the write lands, its band joins, and a CLOSING slot with nothing left outstanding completes. -/
theorem bandWriteCompletes : Obligations.BandWriteCompletes := by
  intro k s before after w hserved hwrites hw hbefore
  have hexec : exec (.bandWriteComplete k) s = .next (s.completeWrite k) :=
    State.inTurn_of_not_servable _ s (State.servable_of_served hserved)
  have htake : takeWrite k s.frames.writes = some (w, before ++ after) := hwrites ▸ takeWrite_append hbefore hw after
  obtain ⟨hleaves, hstored⟩ := State.completeWrite_frames htake
  have hleft : (s.landed k w (before ++ after)).outstanding k = 0 ↔ ∀ x ∈ after, x.slot ≠ k :=
    State.outstanding_eq_zero_iff.trans (List.forall_mem_append.trans (and_iff_right hbefore))
  refine ⟨_, hexec, s.completeWrite_changes k, hleaves, fun a => ?_, fun f hf => ?_⟩
  · rw [hstored]
    exact Memory.readByte_store _ _ _ a
  · have hjoined : f = s.frames.slots[k].joined w := hf
    have hphase : f.phase = s.frames.slots[k].phase := hjoined ▸ FrameSlot.joined_phase w _
    have hjudged : s.frames.slots[k].phase = .closing ∧ (s.landed k w (before ++ after)).outstanding k = 0 ↔
        f.phase = .closing ∧ ∀ x ∈ after, x.slot ≠ k := by rw [hleft, hphase]
    rw [State.completeWrite_of_some htake]
    refine ⟨fun hwaits => ?waits, fun hcloses => ?completes⟩
    case waits =>
      rw [if_neg (mt hjudged.1 hwaits), hjoined]
      exact ⟨rfl, rfl, (EventsRaised.refl s).congr rfl rfl⟩
    case completes =>
      have hclosing := hcloses.1
      rw [if_pos (hjudged.2 hcloses)]
      have hslots : (s.landed k w (before ++ after)).frames.slots = s.frames.slots.set k.val { f with phase := .closing } := by
        rw [← hclosing, hjoined]
        rfl
      have hold : s.frames.slots[k].phase ≠ .ready := by
        rw [← hphase, hclosing]
        decide
      refine State.completeSlot_completes hslots rfl rfl rfl ?_ fun r hr hrk => hold (hrk ▸ State.phase_of_slotIn hr)
      exact State.slotIn_setSlot_of_ne (s := s.withStore _ _) hold (by rwa [FrameSlot.joined_phase])
end

section
namespace Sys2Proof.Machine

/-! ### The constraints of the Stream Table (R134) -/

/-- The constraints of the Stream Table hold. -/
theorem streamConstraints_hold_iff (v : Vector StreamEntry 32) :
    ((streamConstraints v.toList).filter fun c => !c.1).isEmpty = true ↔ StreamsFit v := by
  simp only [streamConstraints, List.isEmpty_iff, List.filter_eq_nil_iff, List.forall_mem_cons, List.not_mem_nil, false_imp_iff,
    implies_true, and_true, Bool.not_eq_true, Bool.not_eq_false', atMostOne_toList_iff, beq_iff_eq, Bool.and_eq_true]
  refine and_congr_right fun _ => ⟨fun ⟨ha, hb⟩ i j hi hj hsink => ?_, fun h => ⟨fun i j hi hj => ?_, fun i j hi hj => ?_⟩⟩
  · cases hs : v[j].sink with
    | a => exact ha i j ⟨hi, hsink.trans hs⟩ ⟨hj, hs⟩
    | b => exact hb i j ⟨hi, hsink.trans hs⟩ ⟨hj, hs⟩
  · exact h i j hi.1 hj.1 (hi.2.trans hj.2.symm)
  · exact h i j hi.1 hj.1 (hi.2.trans hj.2.symm)

theorem decodeAccepts_code (x : Accepts) : decodeAccepts (slotNat x.code) = some x := by
  cases x <;> rfl

theorem decodeSink_code (x : Sink) : decodeSink (slotNat x.code) = some x := by
  cases x <;> rfl

theorem decodeAccess_code (x : Access) : decodeAccess (slotNat x.code) = some x := by
  cases x <;> rfl

/-! ### A FILLING slot abandoned (R59, R60) -/

theorem State.abandonFilling_emptied (s : State) : FillingEmptied s s.abandonFilling := by
  unfold FillingEmptied State.abandonFilling
  cases s.slotIn .filling <;> rfl

theorem State.abandonFilling_raised (s : State) : EventsRaised s.abandonMarks s s.abandonFilling := by
  unfold State.abandonMarks State.abandonFilling
  cases s.slotIn .filling with
  | none => exact EventsRaised.refl s
  | some i => exact (EventsRaised.raise .frameAbandoned _).congr rfl rfl

/-! ### A WRITE of a stream's entry (R134, R140) -/

/-- An entry as a WRITE leaves it: the masked fields are those of `w` (R149). -/
def StreamEntry.picked (mask : BitVec 32) (old w : StreamEntry) : StreamEntry :=
  ⟨pick mask 0 w.enabled old.enabled, pick mask 1 w.accepts old.accepts, pick mask 2 w.sink old.sink, pick mask 3 w.access old.access,
    old.accepted, old.discarded⟩

/-- The slots of a written STREAMS image. -/
def StreamEntry.slots (w : StreamEntry) : List Slot :=
  [slotBool w.enabled, slotNat w.accepts.code, slotNat w.sink.code, slotNat w.access.code]

/-- One entry of the Stream Table replaced. -/
def State.setStream (i : Fin 32) (e : StreamEntry) (s : State) : State := { s with streams := s.streams.set i.val e }

theorem State.setStream_changes (i : Fin 32) (e : StreamEntry) (s : State) : ChangesOnly [.streams] s (s.setStream i e) := by
  intro p hp
  cases p <;> simp_all [Part.same, State.setStream]

section
variable {i : Fin 32} {e : StreamEntry} {s : State}

theorem State.writeStream_of_stops (hold : admitsKind .picture s.streams[i] = true) (hnew : admitsKind .picture e = false) :
    s.writeStream i e = (s.setStream i e).abandonFilling := if_pos (by rw [hold, hnew]; rfl)

theorem State.writeStream_of_goes_on (h : admitsKind .picture s.streams[i] = false ∨ admitsKind .picture e = true) :
    s.writeStream i e = s.setStream i e := if_neg (by rcases h with h | h <;> rw [h] <;> simp)

theorem State.writeStream_streams : (s.writeStream i e).streams = s.streams.set i.val e := by
  unfold State.writeStream
  dsimp only
  split
  · exact (State.abandonFilling_changes _) .streams (by decide)
  · rfl

theorem State.writeStream_changes : ChangesOnly [.streams, .slots, .raised, .notice] s (s.writeStream i e) := by
  unfold State.writeStream
  dsimp only
  split
  · exact (s.setStream_changes i e).step (State.abandonFilling_changes _) (by decide) (by decide)
  · exact (s.setStream_changes i e).mono (by decide)

end

section
variable {w : StreamEntry} {mask : BitVec 32} {ignored : List Slot} {extra : List Byte}

theorem StreamEntry.written_eq (old : StreamEntry) :
    old.written mask ((maskedImage mask w.slots ignored).flatMap (fun v => le 4 v.toNat) ++ extra) = .ok (old.picked mask w) := by
  unfold StreamEntry.written StreamEntry.slots
  rw [maskedField_maskedImage (by simp) (fun _ => decodeBool_slotBool w.enabled),
    maskedField_maskedImage (by simp) (fun _ => decodeAccepts_code w.accepts),
    maskedField_maskedImage (by simp) (fun _ => decodeSink_code w.sink),
    maskedField_maskedImage (by simp) (fun _ => decodeAccess_code w.access)]
  rfl

/-- A WRITE whose mask is empty names no read-only field (R149). -/
theorem writeAct_of_empty_mask {t : Table} {readOnly : Nat → Nat → Bool} {body : Nat → BitVec 32 → List Byte → Verdict} {r : Request}
    {s : State} (h : r.mask = some 0) : writeAct t readOnly body r s = writeAct t (fun _ _ => false) body r s := by
  have hnone : ∀ p, lowestField 0 p = none := fun p => lowestField_eq_none (n := 0) (by decide) (by simp)
  simp only [writeAct, h, hnone]

/-- A WRITE that names writable fields of an entry there is, or no field, comes to the checks of its fields' values (R145). -/
theorem writeAct_of_allowed_write {table index : Nat} {image : List Slot} {r : Request}
    (hoperands : r.operands = writeOperands table index mask image extra) {t : Table} {s : State}
    (hcount : t.writableSlots ≤ s.fieldCount t) (hlength : image.length = t.writableSlots) (hmask : mask.toNat < 2 ^ t.writableSlots)
    (hindex : index < t.entries) (hentries : t.entries ≤ 256) {readOnly : Nat → Nat → Bool}
    (hreadOnly : (∀ k < t.writableSlots, readOnly index k = false) ∨ mask = 0) (body : Nat → BitVec 32 → List Byte → Verdict) :
    writeAct t readOnly body r s = body index mask (image.flatMap (fun v => le 4 v.toNat) ++ extra) := by
  rcases hreadOnly with hreadOnly | rfl
  · exact writeAct_of_write hoperands hcount hlength hmask hindex hentries hreadOnly body
  · exact (writeAct_of_empty_mask (Request.mask_of_write hoperands)).trans
      (writeAct_of_write hoperands hcount hlength hmask hindex hentries (fun _ _ => rfl) body)

/-- Entry 0, read-only, is named by an empty mask alone; the WRITE comes to R134's constraints. -/
theorem writeStreamsAct_eq {i : Fin 32} (hallowed : i ≠ 0 ∨ mask = 0) (hmask : mask.toNat < 2 ^ 4) {r : Request}
    (hoperands : r.operands = writeOperands 0 i.val mask (maskedImage mask w.slots ignored) extra) (s : State) {e : StreamEntry}
    (he : e = s.streams[i].picked mask w) : writeStreamsAct r s =
      unlessConflict mask (streamConstraints (s.streams.set i.val e).toList) (.done e.image (s.writeStream i e)) := by
  have hlength : (maskedImage mask w.slots ignored).length = 4 := by
    rw [maskedImage_length]
    rfl
  have hcount : Table.streams.writableSlots ≤ s.fieldCount .streams := show 4 ≤ 6 by decide
  have hold : s.streams[i.val] = s.streams[i] := rfl
  have himage : (s.writeStream i e).entryImage .streams i.val = some e.image := by
    refine (dif_pos i.isLt).trans ?_
    simp [State.writeStream_streams]
  have hreadOnly : (∀ k < Table.streams.writableSlots, (i.val == 0) = false) ∨ mask = 0 :=
    hallowed.imp_left fun hi _ _ => beq_eq_false_iff_ne.2 fun h => hi (Fin.ext h)
  rw [writeStreamsAct, writeAct_of_allowed_write hoperands hcount hlength hmask i.isLt (by decide) hreadOnly, dif_pos i.isLt]
  simp only [hold, StreamEntry.written_eq, ← he, ranged, doneWrite, himage, Fin.eta, Option.getD_some]

end

end Sys2Proof.Machine

open Sys2Proof Sys2Proof.Machine

/-- Settles O36: the WRITE comes to R134's constraints, and abandons the FILLING slot when the picture stream stops. -/
theorem writeStreams : Obligations.WriteStreams := by
  intro i mask w ignored extra hallowed hmask r hop hoperands rest s h e he
  have hrow : r.service = .writeStreams := by
    have htable : r.table = some .streams := Request.table_of_write hoperands
    simp [Request.service, hop, htable]
  have hact := writeStreamsAct_eq hallowed hmask hoperands (s.dequeued rest) he
  refine ⟨_, exec_atService rfl h hrow, fun hfit => ?written, fun hbroken => ?conflict⟩
  case conflict =>
    exact ⟨_, State.afterService_refused (hact.trans (if_neg fun hhold => hbroken ((streamConstraints_hold_iff _).1 hhold)))⟩
  case written =>
    have hchanges := State.writeStream_changes (i := i) (e := e) (s := s.dequeued rest)
    rw [State.afterService_done (hact.trans (if_pos ((streamConstraints_hold_iff _).2 hfit)))]
    refine ⟨State.writeStream_streams, Answered.place hchanges (by decide) _, hchanges.place (by decide) _, fun hold hnew => ?stops,
      fun hgoes => ?goes_on⟩
    case stops =>
      rw [State.writeStream_of_stops (s := s.dequeued rest) hold hnew]
      exact ⟨State.abandonFilling_emptied ((s.dequeued rest).setStream i e),
        (State.abandonFilling_raised ((s.dequeued rest).setStream i e)).congr rfl rfl⟩
    case goes_on =>
      rw [State.writeStream_of_goes_on (s := s.dequeued rest) hgoes]
      exact ⟨rfl, (EventsRaised.refl s).congr rfl rfl⟩
end

section
namespace Sys2Proof.Machine

/-! ### A WRITE of a panel's record (R58, R63, R73) -/

/-- A mask names a field below the `n`-th exactly if it is not a multiple of `2 ^ n`. -/
theorem lowestField_lt_isSome_iff {mask : BitVec 32} {n : Nat} (hn : n ≤ 32) :
    (lowestField mask fun k => decide (k < n)).isSome = true ↔ mask.toNat % 2 ^ n ≠ 0 := by
  have hbits : mask.toNat % 2 ^ n = 0 ↔ ∀ k < n, mask.getLsbD k = false := by
    refine ⟨fun h k hk => ?_, fun h => Nat.eq_of_testBit_eq fun k => ?_⟩
    · have hbit := Nat.testBit_mod_two_pow mask.toNat n k
      rw [h, Nat.zero_testBit, decide_eq_true hk, Bool.true_and] at hbit
      exact hbit.symm
    · rw [Nat.testBit_mod_two_pow, Nat.zero_testBit]
      rcases Nat.lt_or_ge k n with hk | hk
      · rw [show mask.toNat.testBit k = false from h k hk, Bool.and_false]
      · rw [decide_eq_false (not_lt.2 hk), Bool.false_and]
  rw [lowestField, List.find?_isSome, ne_eq, hbits]
  push Not
  refine exists_congr fun k => ?_
  simp only [List.mem_range, Bool.and_eq_true, decide_eq_true_eq, Bool.not_eq_false]
  exact ⟨fun ⟨_, hbit, hk⟩ => ⟨hk, hbit⟩, fun ⟨hk, hbit⟩ => ⟨hk.trans_le hn, hbit, hk⟩⟩

/-- The field that a check names is one it picks. -/
theorem lowestField_picks {mask : BitVec 32} {p : Nat → Bool} {k : Nat} (h : lowestField mask p = some k) : p k = true := by
  have hfound : (mask.getLsbD k && p k) = true := List.find?_some (p := fun k => mask.getLsbD k && p k) h
  exact (Bool.and_eq_true_iff.1 hfound).2

theorem decodeDimension_slotNat {n : Nat} (h : 1024 ≤ n ∧ n ≤ 2304 ∧ n % 16 = 0) : decodeDimension (slotNat n) = some n := by
  obtain ⟨hlo, hhi, hmod⟩ := h
  simp [decodeDimension, decodeIn_slotNat hlo hhi (by decide), hmod]

/-- The fields of a panel's record that a WRITE gives: the structural numbers, the level slots and the shift enable (R63). -/
structure PanelFields where
  width : Nat
  height : Nat
  marginH : Nat
  marginV : Nat
  kH : Slot
  kV : Slot
  shift : Bool
  limit : Slot
  setpoint : Slot

/-- The structural numbers lie in their ranges (R63). -/
structure PanelFields.InRange (w : PanelFields) : Prop where
  width : 1024 ≤ w.width ∧ w.width ≤ 2304 ∧ w.width % 16 = 0
  height : 1024 ≤ w.height ∧ w.height ≤ 2304 ∧ w.height % 16 = 0
  marginH : w.marginH ≤ 128
  marginV : w.marginV ≤ 128

/-- The slots of a written PANELS image. -/
def PanelFields.slots (w : PanelFields) : List Slot :=
  [slotNat w.width, slotNat w.height, slotNat w.marginH, slotNat w.marginV, w.kH, w.kV, slotBool w.shift, w.limit, w.setpoint]

/-- A panel's record as a WRITE leaves it (R63, R149). -/
def Panel.picked (mask : BitVec 32) (p : Panel) (w : PanelFields) : Panel :=
  { p with
    width := pick mask 0 w.width p.width
    height := pick mask 1 w.height p.height
    marginH := pick mask 2 w.marginH p.marginH
    marginV := pick mask 3 w.marginV p.marginV
    kH := pick mask 4 (clamped 0 32767 w.kH) p.kH
    kV := pick mask 5 (clamped 0 32767 w.kV) p.kV
    shiftEnable := pick mask 6 w.shift p.shiftEnable
    repeatLimit := pick mask 7 (clamped 0 7 w.limit) p.repeatLimit
    setpoint := pick mask 8 (clamped 0 1023 w.setpoint) p.setpoint }

theorem Panel.written_of_inRange {w : PanelFields} (hw : w.InRange) (mask : BitVec 32) (ignored : List Slot) (extra : List Byte)
    (p : Panel) : p.written mask ((maskedImage mask w.slots ignored).flatMap (fun v => le 4 v.toNat) ++ extra) = .ok (p.picked mask w) := by
  unfold Panel.written PanelFields.slots
  rw [maskedField_maskedImage (by simp) (fun _ => decodeDimension_slotNat hw.width),
    maskedField_maskedImage (by simp) (fun _ => decodeDimension_slotNat hw.height),
    maskedField_maskedImage (by simp) (fun _ => decodeIn_slotNat (Nat.zero_le _) hw.marginH (by decide)),
    maskedField_maskedImage (by simp) (fun _ => decodeIn_slotNat (Nat.zero_le _) hw.marginV (by decide)),
    maskedField_maskedImage (v := clamped 0 32767 w.kH) (by simp) (fun _ => rfl),
    maskedField_maskedImage (v := clamped 0 32767 w.kV) (by simp) (fun _ => rfl),
    maskedField_maskedImage (by simp) (fun _ => decodeBool_slotBool w.shift),
    maskedField_maskedImage (v := clamped 0 7 w.limit) (by simp) (fun _ => rfl),
    maskedField_maskedImage (v := clamped 0 1023 w.setpoint) (by simp) (fun _ => rfl)]
  rfl

theorem State.bothOff_iff {s : State} : s.bothOff = true ↔ s.scanout.left.power = .off ∧ s.scanout.right.power = .off := by
  simp [State.bothOff]

/-- A mask names a structural field, one of the first four (R63). -/
def namesStructural (mask : BitVec 32) : Bool := (lowestField mask fun k => decide (k < 4)).isSome

theorem namesStructural_iff {mask : BitVec 32} : namesStructural mask = true ↔ mask.toNat % 16 ≠ 0 :=
  lowestField_lt_isSome_iff (n := 4) (by decide)

/-- A WRITE of values in range comes to the panels' power, and then to its effect (R63). -/
theorem writePanelsAct_eq {w : PanelFields} (hw : w.InRange) {e : Eye} {mask : BitVec 32} (hmask : mask.toNat < 2 ^ 9) {ignored : List Slot}
    {extra : List Byte} {r : Request} (hoperands : r.operands =
      writeOperands 3 (if e = .left then 0 else 1) mask (maskedImage mask w.slots ignored) extra) (s : State) :
    writePanelsAct r s =
      if namesStructural mask = true ∧ ¬ s.bothOff = true then .busy (lowestField mask fun k => decide (k < 4))
      else .done ((s.writePanel e (namesStructural mask) ((s.panel e).picked mask w)).panel e).image
        (s.writePanel e (namesStructural mask) ((s.panel e).picked mask w)) := by
  have hlength : (maskedImage mask w.slots ignored).length = 9 := by
    rw [maskedImage_length]
    rfl
  have hindex : (if e = .left then 0 else 1) < Table.entries .panels := by cases e <;> decide
  have hcount : Table.panels.writableSlots ≤ s.fieldCount .panels := show 9 ≤ 14 by decide
  have heye : (if (if e = .left then 0 else 1) = 0 then Eye.left else .right) = e := by cases e <;> rfl
  rw [writePanelsAct, writeAct_of_write hoperands hcount hlength hmask hindex (by decide) (fun _ _ => rfl)]
  simp only [heye, Panel.written_of_inRange hw, ranged]
  cases e <;> rfl

/-! ### What an accepted WRITE does (R58, R73) -/

/-- Both panels within the brightness in force, one of them with a new record (R73). -/
def State.panelSet (e : Eye) (p : Panel) (s : State) : State := (s.setPanel e p).limitBrightness

theorem State.panelSet_changes (e : Eye) (p : Panel) (s : State) : ChangesOnly [.leftPanel, .rightPanel] s (s.panelSet e p) :=
  (s.setPanel_changes e p).trans (State.limitBrightness_changes _)

theorem State.limitBrightness_panel (e : Eye) (s : State) : s.limitBrightness.panel e = (s.panel e).limit s.power.cap := by
  cases e <;> rfl

theorem State.panelSet_panel_self (e : Eye) (p : Panel) (s : State) : (s.panelSet e p).panel e = p.limit s.power.cap := by
  rw [State.panelSet, State.limitBrightness_panel, State.panel_setPanel, State.setPanel_power]

theorem State.panelSet_panel_of_ne {d e : Eye} (h : d ≠ e) (p : Panel) (s : State) :
    (s.panelSet e p).panel d = (s.panel d).limit s.power.cap := by
  rw [State.panelSet, State.limitBrightness_panel, State.panel_setPanel_of_ne h, State.setPanel_power]

theorem State.emptyAllSlots_slot (i : Fin 3) (s : State) : s.emptyAllSlots.frames.slots[i] = FrameSlot.emptied := by
  simp [State.emptyAllSlots]

/-- FRAME_ABANDONED is raised once if any slot held a frame (R58). -/
theorem State.emptyAllSlots_raised (s : State) : EventsRaised
    (EventKind.frameAbandoned.markIf (decide (∃ i : Fin 3, s.frames.slots[i].phase ≠ .empty))) s s.emptyAllSlots := by
  have hheld : (s.frames.slots.toList.any fun f => f.phase != .empty) = decide (∃ i : Fin 3, s.frames.slots[i].phase ≠ .empty) := by
    rw [toList_eq_map_finRange, List.any_map, Bool.eq_iff_iff, List.any_eq_true, decide_eq_true_iff]
    simp
  rw [← hheld]
  exact EventsRaised.raiseIf_of_events rfl _ _

section
variable {e : Eye} {p : Panel} {s : State}

theorem State.writePanel_of_structural : s.writePanel e true p = (s.panelSet e p).emptyAllSlots := rfl

theorem State.emptyAllSlots_scanout (s : State) : s.emptyAllSlots.scanout = s.scanout :=
  s.emptyAllSlots_changes.scanout_eq (by decide)

theorem State.writePanel_panel (structural : Bool) (d : Eye) : (s.writePanel e structural p).panel d = (s.panelSet e p).panel d := by
  cases structural with
  | false => rfl
  | true => cases d <;> simp only [State.writePanel_of_structural, State.panel, State.emptyAllSlots_scanout]

theorem State.writePanel_changes (structural : Bool) :
    ChangesOnly [.leftPanel, .rightPanel, .slots, .raised, .notice] s (s.writePanel e structural p) := by
  cases structural with
  | false => exact (s.panelSet_changes e p).mono (by decide)
  | true => exact (s.panelSet_changes e p).step (State.emptyAllSlots_changes _) (by decide) (by decide)

end

end Sys2Proof.Machine

open Sys2Proof Sys2Proof.Machine

/-- Settles O39: the WRITE comes to the panels' power; an accepted one limits the brightness, and empties the slots if its mask names a
structural field. -/
theorem writePanels : Obligations.WritePanels := by
  intro e mask width height marginH marginV kH kV limit setpoint shift ignored extra hmask hwidth hheight hmarginH hmarginV r hop hoperands
    rest s h p hp
  have hrow : r.service = .writePanels := by
    have htable : r.table = some .panels := Request.table_of_write hoperands
    simp [Request.service, hop, htable]
  have hact := writePanelsAct_eq (w := ⟨width, height, marginH, marginV, kH, kV, shift, limit, setpoint⟩)
    ⟨hwidth, hheight, hmarginH, hmarginV⟩ hmask hoperands (s.dequeued rest)
  refine ⟨_, exec_atService rfl h hrow, fun hnamed hon => ?busy, fun haccepted => ?written⟩
  case busy =>
    have hstructural := namesStructural_iff.2 hnamed
    obtain ⟨field, hfield⟩ := Option.isSome_iff_exists.1 hstructural
    rw [if_pos ⟨hstructural, fun hoff => hon (State.bothOff_iff.1 hoff)⟩, hfield] at hact
    obtain ⟨hanswered, hchanges⟩ := State.afterService_busy hact
    exact ⟨field, hanswered, of_decide_eq_true (lowestField_picks hfield), hchanges⟩
  case written =>
    have hgoes : ¬ (namesStructural mask = true ∧ ¬ (s.dequeued rest).bothOff = true) := fun ⟨hnamed, hon⟩ =>
      hon (State.bothOff_iff.2 (haccepted.resolve_left (namesStructural_iff.1 hnamed)))
    have hpicked : ((s.dequeued rest).panel e).picked mask ⟨width, height, marginH, marginV, kH, kV, shift, limit, setpoint⟩ = p := by
      rw [hp]
      cases e <;> rfl
    rw [if_neg hgoes, hpicked] at hact
    have hchanges := State.writePanel_changes (e := e) (p := p) (s := s.dequeued rest) (namesStructural mask)
    have hframes : ((s.dequeued rest).panelSet e p).frames = s.frames := State.setPanel_frames e p (s.dequeued rest)
    have hevents : ((s.dequeued rest).panelSet e p).events = s.events := State.setPanel_events e p (s.dequeued rest)
    rw [State.afterService_done hact]
    refine ⟨(State.writePanel_panel _ e).trans (State.panelSet_panel_self e p _),
      fun d hd => ((State.writePanel_panel _ d).trans (State.panelSet_panel_of_ne hd p _)).trans (by cases d <;> rfl),
      Answered.place hchanges (by decide) _, hchanges.place (by decide) _, fun hlevel => ?level, fun hnamed => ?structural⟩
    case level =>
      have hnone : namesStructural mask = false := Bool.eq_false_iff.2 fun hn => namesStructural_iff.1 hn hlevel
      rw [hnone]
      exact ⟨congrArg (·.slots) hframes, (EventsRaised.refl s).congr rfl hevents⟩
    case structural =>
      rw [namesStructural_iff.2 hnamed, State.writePanel_of_structural]
      have hraised := (((s.dequeued rest).panelSet e p).emptyAllSlots_raised).congr hevents.symm rfl
      rw [hframes] at hraised
      exact ⟨fun i => State.emptyAllSlots_slot i _, hraised⟩
end

section
namespace Sys2Proof.Machine

/-! ### The state after a power-on reset keeps the laws (R43, R67, R98, R99, R118, R132, R156, R166) -/

theorem reset_frames : DramLaw State.reset ∧ FrameLaw State.reset := by
  refine ⟨Memory.wf_reset, ?_⟩
  unfold FrameLaw SlotRecordLaw
  decide

theorem reset_queues : QueueLaw State.reset := by unfold QueueLaw; decide

theorem reset_notice : NoticeLaw State.reset := by unfold NoticeLaw; decide

theorem reset_stance : StanceLaw State.reset := ⟨by decide, ⟨rfl, rfl⟩, by decide, by decide, by decide, by decide⟩

/-- A panel at its defaults shows nothing. -/
theorem panelLaw_default (s : State) : PanelLaw Panel.default s := by
  refine ⟨by decide, by decide, by decide, by decide, Nat.zero_le _, by decide, fun w hw => ?_, fun _ => rfl⟩
  cases hw

theorem reset_scanout : ScanoutLaw State.reset := ⟨panelLaw_default _, panelLaw_default _, by decide⟩

theorem reset_silence : SilenceLaw State.reset := by unfold SilenceLaw PlayoutLaw; decide

theorem reset_link : LinkLaw State.reset := by unfold LinkLaw; decide

theorem reset_tables : TableLaw State.reset :=
  ⟨by decide, by decide, by decide, by decide, by decide, by rintro (_ | _) <;> decide, by rintro (_ | _) <;> decide, by decide,
    by decide, by decide, by decide, by decide⟩

end Sys2Proof.Machine

open Sys2Proof Sys2Proof.Machine

/-- Settles O3: law by law, the values of the power-on reset. -/
theorem resetKeepsDeviceLaw : Obligations.ResetKeepsDeviceLaw :=
  ⟨reset_frames.1, reset_frames.2, reset_queues, reset_notice, reset_stance, poseLaw_of_empty rfl rfl, reset_scanout, reset_silence,
    reset_link, reset_tables, senseLaw_of_default (t := 0) rfl⟩
end

section
namespace Sys2Proof.Machine

/-! ### What each service can change (R144 to R153) -/

theorem Verdict.Keeps.mono {P Q : State → Prop} {v : Verdict} (h : v.Keeps P) (hPQ : ∀ t, P t → Q t) : v.Keeps Q := by
  cases v with
  | done _ t => exact hPQ t h
  | deferred t => exact hPQ t h
  | refused => trivial
  | busy => trivial

theorem Verdict.Keeps.doneWrite {P : State → Prop} {t : Table} {i : Nat} {s : State} (h : P s) : (Machine.doneWrite t i s).Keeps P := h

/-- The parts that the service of a row can change, beside the two queues of the Management Unit and the pending stance answer. -/
def serviceParts : Instr → List Part
  | .readSnapshot => sensingParts
  | .writeStreams => [.streams, .slots, .raised, .notice]
  | .writeChannels => [.channels, .samples]
  | .writeGroups => [.fast, .slow]
  | .writePanels => [.leftPanel, .rightPanel, .slots, .raised, .notice]
  | .writeScanout => [.leftPanel, .rightPanel, .scanoutEnable, .refresh, .latchCount, .latchDue]
  | .writeAudio => [.audio, .queueA, .queueB, .capture]
  | .writeReport => [.reportRecord, .sampleQueue]
  | .writeStances => [.stances, .limits] ++ pushParts
  | .writeStanceLimits => [.stanceLimits]
  | .writeRules => [.rules] ++ stanceParts
  | .eventsClear => eventParts
  | .eventsEnable => [.enabled, .notice]
  | .eventsDisable => [.enabled, .notice]
  | .eventsInject => eventParts
  | .gate => [.gate, .notice]
  | .lockLive => [.lock]
  | .groupStart => sensingParts
  | .groupStop => [.fast, .slow, .port, .converter]
  | .rangeClear => [.samples]
  | .extremesClear => [.samples]
  | .stanceOrder => stanceParts
  | .countersClear => [.streams, .counters, .superseded]
  | _ => []

section
variable (r : Request) (s : State)

theorem readAct_changes : (readAct r s).Keeps (ChangesOnly [] s) := by
  unfold readAct
  split
  · trivial
  · refine .needing fun b => ?_
    split
    · trivial
    · split
      · trivial
      · exact .refl _ s

theorem readSnapshotAct_changes : (readSnapshotAct r s).Keeps (ChangesOnly sensingParts s) := by
  refine .needing fun b => ?_
  split
  · trivial
  · exact s.takeSnapshot_changes

theorem writeOtherAct_changes : (writeOtherAct r s).Keeps (ChangesOnly [] s) := by
  unfold writeOtherAct
  split
  · split <;> trivial
  · trivial

theorem descReadAct_changes : (descReadAct r s).Keeps (ChangesOnly [] s) := by
  refine .needing fun b => ?_
  dsimp only
  split
  · trivial
  · split
    · trivial
    · exact .refl _ s

theorem writeStreamsAct_changes : (writeStreamsAct r s).Keeps (ChangesOnly [.streams, .slots, .raised, .notice] s) := by
  refine .writeAct fun i m b _ => ?_
  split
  · exact .ranged fun e _ => .unlessConflict (.doneWrite State.writeStream_changes) _ _
  · trivial

theorem writeChannelsAct_changes : (writeChannelsAct r s).Keeps (ChangesOnly [.channels, .samples] s) := by
  refine .writeAct fun i m b _ => ?_
  split
  · refine .ranged fun c _ => .unlessConflict ?_ _ _
    split
    · trivial
    · split
      · trivial
      · exact s.writeChannel_changes _ m c
  · trivial

theorem writeGroupsAct_changes : (writeGroupsAct r s).Keeps (ChangesOnly [.fast, .slow] s) := by
  refine .writeAct fun i m b _ => ?_
  dsimp only
  generalize (if i = 0 then ScanGroup.fast else .slow) = g
  refine .ranged fun x _ => ?_
  split
  · trivial
  · exact s.setGroup_changes g x

theorem writePanelsAct_changes :
    (writePanelsAct r s).Keeps (ChangesOnly [.leftPanel, .rightPanel, .slots, .raised, .notice] s) := by
  refine .writeAct fun i m b _ => .ranged fun p _ => ?_
  split
  · trivial
  · exact State.writePanel_changes _

theorem State.scanout_changes (x : Scanout) (s : State) : ChangesOnly
    [.leftPanel, .rightPanel, .scanoutEnable, .refresh, .latchCount, .latchDue] s { s with scanout := x } := by
  intro p hp
  cases p <;> simp_all [Part.same]

theorem writeScanoutAct_changes : (writeScanoutAct r s).Keeps
    (ChangesOnly [.leftPanel, .rightPanel, .scanoutEnable, .refresh, .latchCount, .latchDue] s) := by
  refine .writeAct fun i m b _ => .ranged fun x _ => ?_
  split
  · trivial
  · exact (s.scanout_changes x).step (State.followDemand_changes _) (List.Subset.refl _) (by decide)

theorem State.audio_changes (a : AudioRecord) (s : State) :
    ChangesOnly [.audio] s { s with sound := { s.sound with audio := a } } := by
  intro p hp
  cases p <;> simp_all [Part.same]

theorem State.writeAudio_changes (a : AudioRecord) (s : State) :
    ChangesOnly [.audio, .queueA, .queueB, .capture] s (s.writeAudio a) :=
  ((s.audio_changes a).step (State.startPrimed_changes _) (R := [.audio, .queueA, .queueB, .capture]) (by decide) (by decide)).step
    (State.stopCaptureIfEnded_changes _ _) (List.Subset.refl _) (by decide)

theorem writeAudioAct_changes : (writeAudioAct r s).Keeps (ChangesOnly [.audio, .queueA, .queueB, .capture] s) :=
  .writeAct fun _ _ _ _ => .ranged fun a _ => .unlessConflict (.doneWrite (s.writeAudio_changes a)) _ _

theorem writeReportAct_changes : (writeReportAct r s).Keeps (ChangesOnly [.reportRecord, .sampleQueue] s) :=
  .writeAct fun _ _ _ _ => .ranged fun _ _ => s.report_changes _

theorem State.stances_changes (v : Vector StanceRecord 4) (cap floor : Nat) (s : State) : ChangesOnly [.stances, .limits] s
    (s.withPower { s.power with stances := v, cap := cap, floor := floor }) := by
  intro p hp
  cases p <;> simp_all [Part.same, State.withPower]

theorem State.writeStance_changes (i : Fin 4) (x : StanceRecord) (s : State) :
    ChangesOnly ([.stances, .limits] ++ pushParts) s (s.writeStance i x) := by
  unfold State.writeStance
  dsimp only
  split
  · exact s.changePower_changes _ (s.stances_changes _ _ _)
  · exact (s.stances_changes (s.power.stances.set i.val x) s.power.cap s.power.floor).mono (by decide)

theorem writeStancesAct_changes : (writeStancesAct r s).Keeps (ChangesOnly ([.stances, .limits] ++ pushParts) s) := by
  refine .writeAct fun i m b _ => ?_
  split
  · refine .ranged fun x _ => ?_
    split
    · trivial
    · exact s.writeStance_changes _ x
  · trivial

theorem State.limitsWritten_changes {mask : BitVec 32} {image : List Byte} {p : Power} {s : State}
    (h : s.power.limitsWritten mask image = .ok p) : ChangesOnly [.stanceLimits] s (s.withPower p) := by
  obtain ⟨staleLimit, rampTime, rfl⟩ := Power.limitsWritten_keeps h
  intro p hp
  cases p <;> simp_all [Part.same, State.withPower]

theorem writeStanceLimitsAct_changes : (writeStanceLimitsAct r s).Keeps (ChangesOnly [.stanceLimits] s) :=
  .writeAct fun _ _ _ _ => .ranged fun _ hp => State.limitsWritten_changes hp

theorem State.rules_changes (v : Vector Rule 8) (s : State) : ChangesOnly [.rules] s (s.withPower { s.power with rules := v }) := by
  intro p hp
  cases p <;> simp_all [Part.same, State.withPower]

theorem writeRulesAct_changes : (writeRulesAct r s).Keeps (ChangesOnly ([.rules] ++ stanceParts) s) := by
  refine .writeAct fun i m b _ => ?_
  split
  · exact .ranged fun x _ => (s.rules_changes _).step (State.evaluate_changes _) (by decide) (by decide)
  · trivial

theorem eventSetAct_changes {P : List Part} {f : EventSet → State → State} (hf : ∀ k, ChangesOnly P s (f k s)) :
    (eventSetAct f r s).Keeps (ChangesOnly P s) := by
  refine .needing fun b => ?_
  split
  · trivial
  · exact hf _

theorem eventsInjectAct_changes : (eventsInjectAct r s).Keeps (ChangesOnly eventParts s) := by
  refine .needing fun b => ?_
  split
  · trivial
  · exact eventSetAct_changes r s fun k => s.injectEvents_changes k

theorem gateAct_changes : (gateAct r s).Keeps (ChangesOnly [.gate, .notice] s) := by
  refine .needing fun b => ?_
  split
  · exact s.setGate_changes false
  · exact s.setGate_changes true
  · trivial

theorem groupStartAct_changes : (groupStartAct r s).Keeps (ChangesOnly sensingParts s) := by
  refine .needing fun b => ?_
  split
  · trivial
  · split
    · trivial
    · exact s.startGroup_changes _

theorem groupStopAct_changes : (groupStopAct r s).Keeps (ChangesOnly [.fast, .slow, .port, .converter] s) := by
  refine .needing fun b => ?_
  split
  · trivial
  next g _ =>
    show ChangesOnly _ s (if (s.group g).phase = .stopped then s else s.stopGroup g)
    split
    · exact .refl _ s
    · exact s.stopGroup_changes g

theorem State.ordered_changes (x : Stance) (s : State) : ChangesOnly [.stance] s (s.withPower { s.power with ordered := x }) := by
  intro p hp
  cases p <;> simp_all [Part.same, State.withPower]

theorem stanceOrderAct_changes : (stanceOrderAct r s).Keeps (ChangesOnly stanceParts s) := by
  refine .needing fun b => ?_
  split
  · trivial
  next x _ =>
    have hevaluated := (s.ordered_changes x).step (State.evaluate_changes _) (R := stanceParts) (by decide) (List.Subset.refl _)
    split
    · trivial
    · dsimp only
      split
      · exact hevaluated
      · exact hevaluated

theorem countersClearAct_changes : (countersClearAct r s).Keeps (ChangesOnly [.streams, .counters, .superseded] s) := by
  intro p hp
  cases p <;> simp_all [Part.same]

end

/-- The service of a row changes no part beyond the row's. -/
theorem serviceAct_changes {c : Instr} {act : Request → State → Verdict} (hact : serviceAct c = some act) (r : Request) (s : State) :
    (act r s).Keeps (ChangesOnly (serviceParts c) s) := by
  cases c <;> cases hact
  case read => exact readAct_changes r s
  case readSnapshot => exact readSnapshotAct_changes r s
  case write => exact writeOtherAct_changes r s
  case writeStreams => exact writeStreamsAct_changes r s
  case writeChannels => exact writeChannelsAct_changes r s
  case writeGroups => exact writeGroupsAct_changes r s
  case writePanels => exact writePanelsAct_changes r s
  case writeScanout => exact writeScanoutAct_changes r s
  case writeAudio => exact writeAudioAct_changes r s
  case writeReport => exact writeReportAct_changes r s
  case writeStances => exact writeStancesAct_changes r s
  case writeStanceLimits => exact writeStanceLimitsAct_changes r s
  case writeRules => exact writeRulesAct_changes r s
  case descRead => exact descReadAct_changes r s
  case eventsClear => exact eventSetAct_changes r s fun k => s.clearEvents_changes k
  case eventsEnable => exact eventSetAct_changes r s fun k => s.enableEvents_changes k
  case eventsDisable => exact eventSetAct_changes r s fun k => s.disableEvents_changes k
  case eventsInject => exact eventsInjectAct_changes r s
  case gate => exact gateAct_changes r s
  case lockLive => exact s.setLock_changes
  case groupStart => exact groupStartAct_changes r s
  case groupStop => exact groupStopAct_changes r s
  case rangeClear => exact .needing fun _ => s.clearRange_changes _
  case extremesClear => exact .needing fun _ => s.clearExtremes_changes _
  case stanceOrder => exact stanceOrderAct_changes r s
  case countersClear => exact countersClearAct_changes r s

end Sys2Proof.Machine
end

section
namespace Sys2Proof.Machine

/-! ### The law of the frame slots, slot by slot (R41) -/

/-- The parts that the laws of the Frame Store speak of. -/
def storeParts : List Part := [.slots, .writes, .dram]

/-- The DRAM is in canonical form, no two slots share a state but EMPTY, and each slot's record keeps its law. -/
structure StoreLaw (s : State) : Prop where
  dram : DramLaw s
  alone : ∀ i j : Fin 3, s.frames.slots[i].phase ≠ .empty → s.frames.slots[i].phase = s.frames.slots[j].phase → i = j
  record : ∀ i : Fin 3, SlotRecordLaw s.frames.slots[i] (s.outstanding i)

section
variable {s t : State}

theorem State.slotCount_le_one_iff {ph : SlotPhase} :
    s.slotCount ph ≤ 1 ↔ ∀ i j : Fin 3, s.frames.slots[i].phase = ph → s.frames.slots[j].phase = ph → i = j := by
  simpa [atMostOne, State.slotCount] using atMostOne_toList_iff s.frames.slots fun f => f.phase == ph

theorem storeLaw_iff : StoreLaw s ↔ DramLaw s ∧ FrameLaw s := by
  simp only [FrameLaw, State.slotCount_le_one_iff]
  constructor
  · rintro ⟨hdram, halone, hrecord⟩
    have hone : ∀ ph, ph ≠ .empty → ∀ i j : Fin 3, s.frames.slots[i].phase = ph → s.frames.slots[j].phase = ph → i = j :=
      fun ph hph i j hi hj => halone i j (hi ▸ hph) (hi.trans hj.symm)
    exact ⟨hdram, hone _ (by decide), hone _ (by decide), hone _ (by decide), hone _ (by decide), hrecord⟩
  · rintro ⟨hdram, hfilling, hclosing, hready, hshowing, hrecord⟩
    refine ⟨hdram, fun i j hheld hsame => ?_, hrecord⟩
    cases hi : s.frames.slots[i].phase with
    | empty => exact absurd hi hheld
    | filling => exact hfilling i j hi (hsame ▸ hi)
    | closing => exact hclosing i j hi (hsame ▸ hi)
    | ready => exact hready i j hi (hsame ▸ hi)
    | showing => exact hshowing i j hi (hsame ▸ hi)

/-- The law reads the slots, the writes in flight and the DRAM. -/
theorem StoreLaw.congr (h : StoreLaw s) (hslots : t.frames.slots = s.frames.slots) (hwrites : t.frames.writes = s.frames.writes)
    (hdram : t.frames.dram = s.frames.dram) : StoreLaw t := by
  obtain ⟨hform, halone, hrecord⟩ := h
  refine ⟨by rwa [DramLaw, hdram], by rwa [hslots], fun i => ?_⟩
  rw [State.outstanding, hslots, hwrites]
  exact hrecord i

theorem StoreLaw.of_frames_eq (h : StoreLaw s) (hframes : t.frames = s.frames) : StoreLaw t :=
  h.congr (by rw [hframes]) (by rw [hframes]) (by rw [hframes])

/-- What leaves the slots, the writes and the DRAM keeps their laws. -/
theorem StoreLaw.of_changes {P : List Part} (h : StoreLaw s) (hst : ChangesOnly P s t) (hP : ∀ p ∈ storeParts, p ∉ P) : StoreLaw t :=
  h.congr (hst .slots (hP _ (by decide))) (hst .writes (hP _ (by decide))) (hst .dram (hP _ (by decide)))

/-! ### The law of a slot's record -/

theorem slotRecordLaw_emptied (n : Nat) : SlotRecordLaw FrameSlot.emptied n := by
  simp [SlotRecordLaw, FrameSlot.emptied]

theorem slotRecordLaw_opened (frame : BitVec 16) (noShift : Bool) (renderTime : Time) (n : Nat) :
    SlotRecordLaw (.opened frame noShift renderTime) n := by
  simp [SlotRecordLaw, FrameSlot.opened]

section
variable {f : FrameSlot} {n : Nat}

/-- A frame that is not shown yet goes on to another state (R50, R52, R53). -/
theorem SlotRecordLaw.moved (h : SlotRecordLaw f n) {ph : SlotPhase} (hheld : f.phase ≠ .empty) (hshown : f.phase ≠ .showing)
    (hph : ph ≠ .empty) (hn : ph = .ready ∨ ph = .showing → n = 0) : SlotRecordLaw { f with phase := ph } n := by
  obtain ⟨-, hframe, hfresh, hcount, -, hleft, hright⟩ := h
  exact ⟨fun h => absurd h hph, fun _ => hframe hheld, fun _ => hfresh hshown, hcount, hn, hleft, hright⟩

/-- A shown frame is repeated (R54). -/
theorem SlotRecordLaw.repeated (h : SlotRecordLaw f n) (hshown : f.phase = .showing) {k : Nat} (hk : k ≤ 255) :
    SlotRecordLaw { f with repeats := k } n := by
  obtain ⟨-, hframe, -, -, hwrites, hleft, hright⟩ := h
  exact ⟨fun h => absurd (hshown.symm.trans h) (by decide), hframe, fun h => absurd hshown h, hk, hwrites, hleft, hright⟩

/-- No writes of a READY or SHOWING slot are outstanding (R41). -/
theorem SlotRecordLaw.landed (h : SlotRecordLaw f n) (hph : f.phase = .ready ∨ f.phase = .showing) : n = 0 := by
  obtain ⟨-, -, -, -, hwrites, -⟩ := h
  exact hwrites hph

/-- The law asks of the writes outstanding only that a READY or SHOWING slot has none. -/
theorem SlotRecordLaw.outstanding (h : SlotRecordLaw f n) {m : Nat} (hm : f.phase = .ready ∨ f.phase = .showing → n = 0 → m = 0) :
    SlotRecordLaw f m := by
  obtain ⟨hempty, hframe, hfresh, hcount, hwrites, hbands⟩ := h
  exact ⟨hempty, hframe, hfresh, hcount, fun hph => hm hph (hwrites hph), hbands⟩

theorem mem_insertBand {x i : Nat} {js : List Nat} (h : x ∈ insertBand i js) : x = i ∨ x ∈ js := by
  induction js with
  | nil => simpa [insertBand] using h
  | cons j js ih =>
    unfold insertBand at h
    split at h
    · exact List.mem_cons.1 h
    · split at h
      · exact .inr h
      · rcases List.mem_cons.1 h with rfl | h
        · exact .inr List.mem_cons_self
        · exact (ih h).imp_right (List.mem_cons_of_mem _)

/-- A set of band indices stays rising, so that no index stands in it twice (R49). -/
theorem insertBand_rising {i : Nat} {js : List Nat} (h : js.Pairwise (· < ·)) : (insertBand i js).Pairwise (· < ·) := by
  induction js with
  | nil => exact List.pairwise_singleton _ _
  | cons j js ih =>
    obtain ⟨hj, hjs⟩ := List.pairwise_cons.1 h
    unfold insertBand
    split
    next hlt =>
      refine List.pairwise_cons.2 ⟨fun x hx => ?_, h⟩
      rcases List.mem_cons.1 hx with rfl | hx
      · exact hlt
      · exact hlt.trans (hj x hx)
    next hnlt =>
      split
      · exact h
      next hne =>
        refine List.pairwise_cons.2 ⟨fun x hx => ?_, ih hjs⟩
        rcases mem_insertBand hx with rfl | hx
        · omega
        · exact hj x hx

theorem SlotRecordLaw.joinBand (h : SlotRecordLaw f n) (hheld : f.phase ≠ .empty) (eye : Eye) (band : Nat) :
    SlotRecordLaw (f.joinBand eye band) n := by
  obtain ⟨-, hframe, hfresh, hcount, hwrites, hleft, hright⟩ := h
  cases eye with
  | left => exact ⟨fun h => absurd h hheld, hframe, hfresh, hcount, hwrites, insertBand_rising hleft, hright⟩
  | right => exact ⟨fun h => absurd h hheld, hframe, hfresh, hcount, hwrites, hleft, insertBand_rising hright⟩

theorem SlotRecordLaw.joined (h : SlotRecordLaw f n) (w : BandWrite) : SlotRecordLaw (f.joined w) n := by
  unfold FrameSlot.joined
  split
  next hjoins =>
    refine h.joinBand (fun hempty => ?_) _ _
    rw [hempty] at hjoins
    simp at hjoins
  next => exact h

end

/-! ### The slots' operations keep the law -/

/-- One slot takes a record of its own law, in a state no other slot is in. -/
theorem StoreLaw.setSlot (h : StoreLaw s) {i : Fin 3} {f : FrameSlot} (hrecord : SlotRecordLaw f (s.outstanding i))
    (halone : f.phase ≠ .empty → ∀ j, j ≠ i → s.frames.slots[j].phase ≠ f.phase) : StoreLaw (s.setSlot i f) := by
  refine ⟨h.dram, fun j k hheld hsame => ?_, fun j => ?_⟩
  · by_cases hj : j = i <;> by_cases hk : k = i
    · exact hj.trans hk.symm
    · subst hj
      rw [State.setSlot_slot_self] at hheld hsame
      rw [State.setSlot_slot_of_ne hk] at hsame
      exact absurd hsame.symm (halone hheld k hk)
    · subst hk
      rw [State.setSlot_slot_of_ne hj] at hheld hsame
      rw [State.setSlot_slot_self] at hsame
      exact absurd hsame (halone (hsame ▸ hheld) j hj)
    · rw [State.setSlot_slot_of_ne hj] at hheld hsame
      rw [State.setSlot_slot_of_ne hk] at hsame
      exact h.alone j k hheld hsame
  · rw [State.setSlot_outstanding]
    rcases eq_or_ne j i with rfl | hne
    · rwa [State.setSlot_slot_self]
    · rw [State.setSlot_slot_of_ne hne]
      exact h.record j

/-- No other slot is in the state that a slot is in. -/
theorem StoreLaw.only (h : StoreLaw s) {i : Fin 3} {ph : SlotPhase} (hph : ph ≠ .empty) (hi : s.frames.slots[i].phase = ph) :
    ∀ j, j ≠ i → s.frames.slots[j].phase ≠ ph :=
  fun j hne hj => hne (h.alone j i (hj ▸ hph) (hj.trans hi.symm))

/-- One slot takes another record in the state it is in. -/
theorem StoreLaw.setSlot_of_phase (h : StoreLaw s) {i : Fin 3} {f : FrameSlot} (hrecord : SlotRecordLaw f (s.outstanding i))
    (hphase : f.phase = s.frames.slots[i].phase) : StoreLaw (s.setSlot i f) :=
  h.setSlot hrecord fun hheld => h.only hheld hphase.symm

theorem StoreLaw.emptySlot (h : StoreLaw s) (i : Fin 3) : StoreLaw (s.emptySlot i) :=
  h.setSlot (slotRecordLaw_emptied _) fun hheld => absurd rfl hheld

theorem StoreLaw.raise (h : StoreLaw s) (k : EventKind) : StoreLaw (s.raise k) := h.of_frames_eq rfl

theorem StoreLaw.supersedeIn (h : StoreLaw s) (ph : SlotPhase) : StoreLaw (s.supersedeIn ph) := by
  unfold State.supersedeIn
  split
  next i _ => exact (h.emptySlot i).congr rfl rfl rfl
  next => exact h

/-- Emptying the slot in a state leaves none in it. -/
theorem StoreLaw.emptySlot_none (h : StoreLaw s) {ph : SlotPhase} (hph : ph ≠ .empty) {i : Fin 3} (hi : s.slotIn ph = some i)
    (j : Fin 3) : (s.emptySlot i).frames.slots[j].phase ≠ ph := by
  unfold State.emptySlot
  rcases eq_or_ne j i with rfl | hne
  · rw [State.setSlot_slot_self]
    exact hph.symm
  · rw [State.setSlot_slot_of_ne hne]
    exact h.only hph (State.phase_of_slotIn hi) j hne

theorem StoreLaw.supersedeIn_none (h : StoreLaw s) {ph : SlotPhase} (hph : ph ≠ .empty) (j : Fin 3) :
    (s.supersedeIn ph).frames.slots[j].phase ≠ ph := by
  unfold State.supersedeIn
  split
  next i hi => exact h.emptySlot_none hph hi j
  next hnone => exact State.slotIn_eq_none_iff.1 hnone j

/-- The writes in flight and the DRAM are replaced; no write comes for a READY or SHOWING slot that had none. -/
theorem StoreLaw.withStore (h : StoreLaw s) {writes : List BandWrite} {dram : Memory} (hdram : dram.wf)
    (hwrites : ∀ i : Fin 3, s.frames.slots[i].phase = .ready ∨ s.frames.slots[i].phase = .showing →
      s.outstanding i = 0 → (s.withStore writes dram).outstanding i = 0) : StoreLaw (s.withStore writes dram) :=
  ⟨hdram, h.alone, fun i => (h.record i).outstanding (hwrites i)⟩

/-- All slots EMPTY. -/
theorem StoreLaw.of_emptied (hdram : DramLaw t) (hslots : t.frames.slots = Vector.replicate 3 FrameSlot.emptied) : StoreLaw t := by
  have hslot : ∀ i : Fin 3, t.frames.slots[i] = FrameSlot.emptied := fun i => by
    rw [hslots]
    exact Vector.getElem_replicate _
  refine ⟨hdram, fun i j hheld => ?_, fun i => ?_⟩
  · rw [hslot] at hheld
    exact absurd rfl hheld
  · rw [hslot]
    exact slotRecordLaw_emptied _

/-! ### The cells of a frame keep the law (R45 to R51) -/

theorem StoreLaw.openFrame (h : StoreLaw s) (f : BitVec 16) (noShift : Bool) (time : Time) :
    StoreLaw (s.openFrame f noShift time).2 := by
  cases hfilling : s.slotIn .filling with
  | some k =>
    rw [State.openFrame_of_filling f noShift time hfilling]
    exact (h.raise _).setSlot_of_phase (slotRecordLaw_opened ..) (State.phase_of_slotIn hfilling).symm
  | none =>
    cases hfree : s.freeSlot with
    | some k =>
      rw [State.openFrame_of_free f noShift time hfilling hfree]
      exact h.setSlot (slotRecordLaw_opened ..) fun _ j _ => State.slotIn_eq_none_iff.1 hfilling j
    | none =>
      rw [State.openFrame_of_full f noShift time hfilling hfree]
      exact h.raise _

/-- The accepted band's write goes to the FILLING slot. -/
theorem StoreLaw.acceptBand (h : StoreLaw s) (f : BitVec 16) (eye band : Byte) (rows : List Byte) :
    StoreLaw (s.acceptBand f eye band rows).2 := by
  cases htarget : s.bandTarget f eye band with
  | none =>
    rw [State.acceptBand_of_stray rows htarget]
    exact h
  | some target =>
    obtain ⟨k, e⟩ := target
    have hfilling := State.phase_of_slotIn (State.bandTarget_eq_some_iff.1 htarget).1
    rw [State.acceptBand_of_target rows htarget]
    refine h.withStore h.dram fun i hi hnone => State.outstanding_eq_zero_iff.2 (List.forall_mem_append.2
      ⟨State.outstanding_eq_zero_iff.1 hnone, List.forall_mem_singleton.2 fun hk => ?_⟩)
    change k = i at hk
    rw [← hk, hfilling] at hi
    simp at hi

/-- A CLOSING slot with no writes outstanding completes (R52). -/
theorem StoreLaw.completeSlot (h : StoreLaw s) {i : Fin 3} (hclosing : s.frames.slots[i].phase = .closing) (hnone : s.outstanding i = 0) :
    StoreLaw (s.completeSlot i) := by
  by_cases hcomplete : BandsComplete s.frames.slots[i] s
  · rw [State.completeSlot_of_complete hcomplete]
    refine (h.supersedeIn .ready).setSlot ?_ fun _ j _ => h.supersedeIn_none (by decide) j
    rw [State.supersedeIn_outstanding]
    exact (h.record i).moved (by rw [hclosing]; decide) (by rw [hclosing]; decide) (by decide) fun _ => hnone
  · rw [State.completeSlot_of_incomplete hcomplete]
    exact (h.emptySlot i).raise _

theorem StoreLaw.closing (h : StoreLaw s) {k : Fin 3} (hfilling : s.frames.slots[k].phase = .filling) : StoreLaw (s.closing k) := by
  refine (h.supersedeIn .closing).setSlot ?_ fun _ j _ => h.supersedeIn_none (by decide) j
  rw [State.supersedeIn_outstanding]
  exact (h.record k).moved (by rw [hfilling]; decide) (by rw [hfilling]; decide) (by decide) (by simp)

theorem StoreLaw.closeFrame (h : StoreLaw s) (f : BitVec 16) : StoreLaw (s.closeFrame f).2 := by
  by_cases hcloses : ∃ k, s.slotIn .filling = some k ∧ s.frames.slots[k].frame = some f
  · obtain ⟨k, hk, hframe⟩ := hcloses
    have hclosing := h.closing (State.phase_of_slotIn hk)
    rw [State.closeFrame_of_filling hk hframe]
    dsimp only
    split
    next hnone =>
      refine hclosing.completeSlot ?_ (by rwa [State.closing_outstanding])
      rw [State.closing, State.setSlot_slot_self]
    next => exact hclosing
  · rw [State.closeFrame_of_stray fun k hk hframe => hcloses ⟨k, hk, hframe⟩]
    exact h

/-! ### A write that lands keeps the law (R48, R49, R52) -/

theorem takeWrite_rest_sublist {i : Fin 3} {w : BandWrite} {ws rest : List BandWrite} (h : takeWrite i ws = some (w, rest)) :
    rest.Sublist ws := by
  induction ws generalizing rest with
  | nil => cases h
  | cons x ws ih =>
    unfold takeWrite at h
    split at h
    · obtain ⟨-, rfl⟩ := Prod.mk.inj (Option.some.inj h)
      exact List.sublist_cons_self _ _
    · obtain ⟨⟨w', rest'⟩, htail, heq⟩ := Option.map_eq_some_iff.1 h
      obtain ⟨rfl, rfl⟩ := Prod.mk.inj heq
      exact (ih htail).cons_cons x

theorem StoreLaw.landed (h : StoreLaw s) {i : Fin 3} {w : BandWrite} {rest : List BandWrite} (hrest : rest.Sublist s.frames.writes) :
    StoreLaw (s.landed i w rest) := by
  have hstored : StoreLaw (s.withStore rest (s.frames.dram.store w.place w.rows)) :=
    h.withStore (Memory.wf_store h.dram _ _) fun j _ hnone =>
      State.outstanding_eq_zero_iff.2 fun x hx => State.outstanding_eq_zero_iff.1 hnone x (hrest.subset hx)
  exact hstored.setSlot_of_phase ((hstored.record i).joined w) (FrameSlot.joined_phase w _)

theorem StoreLaw.completeWrite (h : StoreLaw s) (i : Fin 3) : StoreLaw (s.completeWrite i) := by
  cases htake : takeWrite i s.frames.writes with
  | none =>
    rw [State.completeWrite_of_none htake]
    exact h
  | some taken =>
    obtain ⟨w, rest⟩ := taken
    have hlanded : StoreLaw (s.landed i w rest) := h.landed (takeWrite_rest_sublist htake)
    rw [State.completeWrite_of_some htake]
    split
    next hcloses =>
      refine hlanded.completeSlot ?_ hcloses.2
      rw [State.landed, State.setSlot_slot_self, FrameSlot.joined_phase, hcloses.1]
    next => exact hlanded

/-! ### The frame latch and what empties slots keep the law (R43, R53, R54, R58 to R60) -/

/-- The READY frame's record once it is shown (R53). -/
theorem StoreLaw.shown (h : StoreLaw s) {r : Fin 3} (hready : s.frames.slots[r].phase = .ready) :
    SlotRecordLaw { s.frames.slots[r] with phase := .showing, repeats := 0 } (s.outstanding r) :=
  SlotRecordLaw.repeated (f := { s.frames.slots[r] with phase := .showing })
    ((h.record r).moved (by rw [hready]; decide) (by rw [hready]; decide) (by decide) fun _ => (h.record r).landed (.inl hready))
    rfl (Nat.zero_le _)

theorem StoreLaw.promote (h : StoreLaw s) : StoreLaw s.promote := by
  unfold State.promote
  split
  next r hready =>
    have hshown := h.shown (State.phase_of_slotIn hready)
    cases hold : s.slotIn .showing with
    | some o => exact (h.emptySlot o).setSlot hshown fun _ j _ => h.emptySlot_none (by decide) hold j
    | none => exact h.setSlot hshown fun _ j _ => State.slotIn_eq_none_iff.1 hold j
  next o hready hshowing =>
    have hshown := State.phase_of_slotIn hshowing
    exact h.setSlot_of_phase ((h.record o).repeated hshown (Nat.min_le_left ..)) rfl
  next => exact h

theorem StoreLaw.abandonFilling (h : StoreLaw s) : StoreLaw s.abandonFilling := by
  unfold State.abandonFilling
  split
  next i _ => exact (h.emptySlot i).raise _
  next => exact h

theorem StoreLaw.emptyAllSlots (h : StoreLaw s) : StoreLaw s.emptyAllSlots := by
  refine .of_emptied ?_ ?_
  · have hdram : s.emptyAllSlots.frames.dram = s.frames.dram := s.emptyAllSlots_changes .dram (by decide)
    rw [DramLaw, hdram]
    exact h.dram
  · rw [State.emptyAllSlots, State.raiseIf_frames]

theorem StoreLaw.of_cancelled (h : StoreLaw s) (hslots : t.frames.slots = Vector.replicate 3 FrameSlot.emptied)
    (hdram : t.frames.dram = s.frames.cancelled.dram) : StoreLaw t :=
  .of_emptied (by rw [DramLaw, hdram]; exact FrameStore.wf_cancelled h.dram) hslots

end

end Sys2Proof.Machine
end

section
namespace Sys2Proof.Machine

/-! ### The link, the resets and the latch keep the law of the Frame Store -/

section
variable {s t : State}

theorem StoreLaw.setLink (h : StoreLaw s) (l : Link) : StoreLaw (s.setLink l) := h.of_frames_eq rfl

theorem StoreLaw.goodHeader (h : StoreLaw s) : StoreLaw s.goodHeader := h.of_changes s.goodHeader_changes (by decide)

theorem StoreLaw.enterLost (h : StoreLaw s) : StoreLaw s.enterLost :=
  (((h.setLink _).of_changes (State.blackOut_changes _) (by decide)).of_changes (State.emptyIfBarred_changes _) (by decide)).abandonFilling

theorem StoreLaw.badHeader (h : StoreLaw s) : StoreLaw s.badHeader := by
  unfold State.badHeader
  split
  · exact h
  · exact h.setLink _
  · exact h.setLink _
  · split
    · exact h.enterLost
    · exact h.setLink _

theorem StoreLaw.discardCell (h : StoreLaw s) (d : Discard) : StoreLaw (s.discardCell d) := by
  unfold State.discardCell
  dsimp only
  split
  · exact (h.badHeader.setLink _).raise _
  · exact (h.goodHeader.setLink _).raise _

theorem StoreLaw.discardFramed (h : StoreLaw s) (framed : List Byte) : StoreLaw (s.discardFramed framed) := by
  unfold State.discardFramed
  split
  · split
    · exact h.discardCell _
    · exact h
  · exact h

theorem StoreLaw.clockStops (h : StoreLaw s) (cut : List Byte) : StoreLaw (s.clockStops cut) := by
  unfold State.clockStops
  split
  · dsimp only
    split
    · exact h.setLink _
    · exact (h.discardFramed cut).setLink _
  · exact h

theorem StoreLaw.clockLossExpires (h : StoreLaw s) : StoreLaw s.clockLossExpires := by
  unfold State.clockLossExpires
  split
  · exact h
  next n _ =>
    have hstopped : StoreLaw ((s.elapse (clockLossTime - n)).setLink { (s.elapse (clockLossTime - n)).link with clockLoss := none }) :=
      (h.of_changes (s.elapse_changes _) (by decide)).setLink _
    dsimp only
    split
    · exact hstopped
    · exact hstopped.setLink _
    · exact hstopped.enterLost
    · exact hstopped.setLink _

theorem StoreLaw.crystalStops (h : StoreLaw s) : StoreLaw s.crystalStops := by
  unfold State.crystalStops
  split
  · exact h.of_frames_eq rfl
  · exact h

theorem StoreLaw.crystalLossExpires (h : StoreLaw s) : StoreLaw s.crystalLossExpires := by
  unfold State.crystalLossExpires
  split
  · exact h
  · dsimp only
    generalize hfallen : State.raise .clockFallback _ = u
    have hu : StoreLaw u := hfallen ▸ h.of_frames_eq rfl
    exact (hu.of_changes u.blackOut_changes (by decide)).of_changes (State.emptyIfBarred_changes _) (by decide)

theorem StoreLaw.tetherReset (h : StoreLaw s) : StoreLaw s.tetherReset := by
  have hframes : s.tetherReset.frames = { s.frames.cancelled with superseded := 0 } := by
    simp [State.tetherReset]
  exact h.of_cancelled (by rw [hframes]; rfl) (by rw [hframes])

theorem StoreLaw.linkLossReset (h : StoreLaw s) : StoreLaw s.linkLossReset :=
  StoreLaw.of_cancelled (h.of_changes (s.stopGroup_changes .fast) (by decide)) rfl rfl

theorem StoreLaw.holdExpires (h : StoreLaw s) : StoreLaw s.holdExpires := (h.setLink _).linkLossReset.setLink _

theorem storeLaw_powerOnReset (s : State) : StoreLaw s.powerOnReset := .of_emptied Memory.wf_reset rfl

theorem StoreLaw.frameLatch (h : StoreLaw s) : StoreLaw s.frameLatch := h.promote.of_frames_eq s.frameLatch_frames

theorem StoreLaw.panelOn (h : StoreLaw s) (e : Eye) : StoreLaw (s.panelOn e) := by
  unfold State.panelOn
  have hon : StoreLaw (s.setPanel e { (s.panel e).dark with power := .on }) := h.of_changes (s.setPanel_changes e _) (by decide)
  dsimp only
  split
  · exact hon.frameLatch
  · exact hon

/-! ### The services keep the law -/

theorem StoreLaw.writeStream (h : StoreLaw s) (i : Fin 32) (e : StreamEntry) : StoreLaw (s.writeStream i e) := by
  have hset : StoreLaw { s with streams := s.streams.set i.val e } := h.of_frames_eq rfl
  unfold State.writeStream
  dsimp only
  split
  · exact hset.abandonFilling
  · exact hset

theorem StoreLaw.writePanel (h : StoreLaw s) (e : Eye) (structural : Bool) (p : Panel) : StoreLaw (s.writePanel e structural p) := by
  have hset : StoreLaw (s.panelSet e p) := h.of_changes (s.panelSet_changes e p) (by decide)
  cases structural with
  | true => exact hset.emptyAllSlots
  | false => exact hset

theorem StoreLaw.writeStreamsAct (h : StoreLaw s) (r : Request) : (writeStreamsAct r s).Keeps StoreLaw := by
  refine .writeAct fun i m b _ => ?_
  split
  · exact .ranged fun e _ => .unlessConflict (.doneWrite (h.writeStream _ e)) _ _
  · trivial

theorem StoreLaw.writePanelsAct (h : StoreLaw s) (r : Request) : (writePanelsAct r s).Keeps StoreLaw := by
  refine .writeAct fun i m b _ => .ranged fun p _ => ?_
  split
  · trivial
  · exact h.writePanel _ _ p

/-- Every service keeps the law: only WRITE to STREAMS and to PANELS reach the slots. -/
theorem StoreLaw.service (h : StoreLaw s) {c : Instr} {act : Request → State → Verdict} (hact : serviceAct c = some act) :
    StoreLaw (s.serve c act) := by
  refine State.serve_keeps (fun u m hu => hu.of_frames_eq rfl) (fun r u hu => ?_) h
  have hchanges := serviceAct_changes hact r u
  have helsewhere : (∀ p ∈ storeParts, p ∉ serviceParts c) → (act r u).Keeps StoreLaw := fun hP =>
    hchanges.mono fun _ ht => hu.of_changes ht hP
  cases c <;> cases hact
  case writeStreams => exact hu.writeStreamsAct r
  case writePanels => exact hu.writePanelsAct r
  all_goals exact helsewhere (by decide)

theorem StoreLaw.caughtUp (h : StoreLaw s) : StoreLaw s.caughtUp :=
  State.caughtUp_keeps (fun _ _ hact _ hs => hs.service hact) h

/-! ### The commands keep the law -/

theorem StoreLaw.timed (h : StoreLaw s) (due : Option Time) {f : State → State} (hf : ∀ u, StoreLaw u → StoreLaw (f u)) :
    StoreLaw (s.timed due f) := by
  unfold State.timed
  split
  · split
    · exact hf _ (h.of_changes (s.runTo_changes _) (by decide))
    · exact h
  · exact h

/-- A timed event of another block. -/
theorem StoreLaw.timed_of_changes (h : StoreLaw s) (due : Option Time) {P : List Part} {f : State → State}
    (hf : ∀ u, ChangesOnly P u (f u)) (hP : ∀ p ∈ storeParts, p ∉ P) : StoreLaw (s.timed due f) :=
  h.timed due fun u hu => hu.of_changes (hf u) hP

theorem StoreLaw.whenReceiving (h : StoreLaw s) {f : State → State} (hf : StoreLaw (f s)) : StoreLaw (s.whenReceiving f) := by
  unfold State.whenReceiving
  split
  · exact hf
  · exact h

/-- A cell that arrives keeps the law when its delivery does. -/
theorem StoreLaw.arrive (h : StoreLaw s) {i : Fin 32} {admits : StreamEntry → Bool} {deliver : StreamEntry → State → Bool × State}
    (hd : ∀ e u, StoreLaw u → StoreLaw (deliver e u).2) : StoreLaw (s.arrive i admits deliver) := by
  have hhanded : StoreLaw s.handed := h.goodHeader.of_frames_eq rfl
  show StoreLaw (if _ then _ else _)
  split
  · exact (hd _ _ hhanded).of_frames_eq rfl
  · exact hhanded.of_frames_eq rfl

/-- A cell that its length or its operands turn away as a runt, and is else taken. -/
theorem StoreLaw.cell (h : StoreLaw s) {fits : State → Bool} {f : State → State} (hf : StoreLaw (f s)) :
    StoreLaw (s.whenReceiving fun s => if fits s then f s else s.discardCell .runt) := by
  refine h.whenReceiving ?_
  split
  · exact hf
  · exact h.discardCell _

theorem StoreLaw.reset (h : StoreLaw s) (i : Fin 32) : StoreLaw (State.whenReceiving (fun s =>
    let s := s.arrive i (fun _ => i == 0) fun _ s => (true, s)
    if i = 0 then s.tetherReset else s) s) := by
  have harrived : StoreLaw (s.arrive i (fun _ => i == 0) fun _ s => (true, s)) := h.arrive fun _ _ hu => hu
  refine h.whenReceiving ?_
  dsimp only
  split
  · exact harrived.tetherReset
  · exact harrived

/-- Every command keeps the law of the Frame Store. -/
theorem StoreLaw.exec (h : StoreLaw s) {c : Instr} (ht : exec c s = .next t) : StoreLaw t := by
  have hu := h.caughtUp
  have hturn : ∀ {f : State → State}, s.inTurn f = .next t → StoreLaw (f s.caughtUp) → StoreLaw t := fun ht hf =>
    Host.Outcome.next.inj ht ▸ hf
  cases hact : serviceAct c with
  | some act => exact Host.Outcome.next.inj ((exec_of_serviceAct hact s).symm.trans ht) ▸ h.service hact
  | none =>
    cases c
    all_goals simp only [serviceAct, reduceCtorEq] at hact
    case powerOnReset => exact Host.Outcome.next.inj ht ▸ storeLaw_powerOnReset s
    case reset i => exact hturn ht (hu.reset i)
    case holdExpiry => exact hturn ht (hu.timed _ fun _ h => h.holdExpires)
    case clockAbsent cut => exact hturn ht (hu.clockStops cut)
    case clockReturn => exact hturn ht (hu.of_changes (State.clockReturns_changes _) (by decide))
    case clockLossExpiry => exact hturn ht hu.clockLossExpires
    case crystalAbsent => exact hturn ht hu.crystalStops
    case crystalReturn => exact hturn ht (hu.of_frames_eq rfl)
    case crystalLossExpiry => exact hturn ht hu.crystalLossExpires
    case cellDiscarded framed => exact hturn ht (hu.discardFramed framed)
    case fill => exact hturn ht (hu.whenReceiving hu.goodHeader)
    case picOpen => exact hturn ht (hu.whenReceiving (hu.arrive fun _ _ h => h.openFrame _ _ _))
    case picBand => exact hturn ht (hu.cell (hu.arrive fun _ _ h => h.acceptBand _ _ _ _))
    case picClose => exact hturn ht (hu.whenReceiving (hu.arrive fun _ _ h => h.closeFrame _))
    case bandWriteComplete i => exact hturn ht (hu.completeWrite i)
    case sound => exact hturn ht (hu.cell (hu.arrive fun _ u h => h.of_changes (u.takeSound_changes _ _) (by decide)))
    case ask => exact hturn ht (hu.cell (hu.arrive fun _ u h => h.of_changes (u.takeAsk_changes _) (by decide)))
    case scanTrigger g => exact hturn ht (hu.timed_of_changes _ (fun u => u.timerTrigger_changes g) (by decide))
    case burstComplete raw => exact hturn ht (hu.timed_of_changes _ (fun u => u.burstDone_changes raw) (by decide))
    case conversionComplete raw => exact hturn ht (hu.timed_of_changes _ (fun u => u.conversionDone_changes raw) (by decide))
    case ageExpiry => exact hturn ht (hu.timed_of_changes _ (fun u => u.ageHead_changes) (by decide))
    case frameLatch => exact hturn ht (hu.timed _ fun _ h => h.frameLatch)
    case panelReady e => exact hturn ht (hu.timed _ fun _ h => h.panelOn e)
    case powerDownComplete e => exact hturn ht (hu.timed_of_changes _ (fun u => u.panelDown_changes e) (by decide))
    case outputTick => exact hturn ht (hu.timed_of_changes _ (fun u => u.outputTick_changes) (by decide))
    case slipCheck =>
      refine hturn ht ?_
      show StoreLaw (if s.caughtUp.sound.slipDue then s.caughtUp.slipCheck else s.caughtUp)
      split
      · exact hu.of_changes (State.slipCheck_changes _) (by decide)
      · exact hu
    case microphoneSample raw => exact hturn ht (hu.timed_of_changes _ (fun u => u.microphone_changes raw) (by decide))
    case stanceCheck => exact hturn ht (hu.timed_of_changes _ (fun u => u.stanceCheck_changes) (by decide))
    case cellBoundary => exact hturn ht (hu.of_changes (State.cellBoundary_changes _) (by decide))

theorem StoreLaw.step (h : StoreLaw s) (ht : step s = .next t) : StoreLaw t := by
  unfold Machine.step at ht
  split at ht
  next c rest _ => exact StoreLaw.exec (s := { s with pending := rest }) (h.of_frames_eq rfl) ht
  next =>
    unfold State.ownStep at ht
    split at ht
    · exact h.exec ht
    · exact Host.Outcome.next.inj ht ▸ h.of_changes (s.elapse_changes 1) (by decide)

/-- The laws of the device say what the Frame Store keeps. -/
theorem DeviceLaw.store (h : DeviceLaw s) : StoreLaw s := by
  obtain ⟨hdram, hframes, -⟩ := h
  exact storeLaw_iff.2 ⟨hdram, hframes⟩

end

end Sys2Proof.Machine

open Sys2Proof Sys2Proof.Machine

/-- Settles O4: each operation on the slots keeps the law slot by slot, and no other block touches what the law speaks of. -/
theorem frameStoreLawKept : Obligations.FrameStoreLawKept := fun _ _ hs hstep => storeLaw_iff.1 (hs.store.step hstep)
end

section
namespace Sys2Proof.Machine

/-! ### What a panel shows, panel by panel (R65, R68, R71 to R73, R77 to R79) -/

/-- The shown part of a panel that is dark: no shift, no brightness, no window (R79). -/
def Panel.IsDark (p : Panel) : Prop := p.dx = 0 ∧ p.dy = 0 ∧ p.shown = 0 ∧ p.window = none

theorem Panel.isDark_dark (p : Panel) : p.dark.IsDark := ⟨rfl, rfl, rfl, rfl⟩

section
variable {p q : Panel} {s t : State}

/-- A dark panel keeps the law in every state. -/
theorem Panel.IsDark.law (h : p.IsDark) (s : State) : PanelLaw p s := by
  obtain ⟨hdx, hdy, hshown, hwindow⟩ := h
  simp [PanelLaw, hdx, hdy, hshown, hwindow]

/-- A panel that is not ON is dark (R65, R71, R79). -/
theorem PanelLaw.isDark (h : PanelLaw p s) (hoff : p.power ≠ .on) : p.IsDark := by
  obtain ⟨-, -, hdark, -, -, hblack, -⟩ := h
  obtain ⟨hdx, hdy, hwindow⟩ := hdark hoff
  exact ⟨hdx, hdy, hblack hwindow, hwindow⟩

/-- The law rests on the cap in force, the slots that are SHOWING, the link and the clock source. -/
theorem PanelLaw.of_state (h : PanelLaw p s) (hcap : p.shown ≤ t.power.cap)
    (hshowing : ∀ i : Fin 3, s.frames.slots[i].phase = .showing → t.frames.slots[i].phase = .showing)
    (hblack : t.link.state ≠ .up ∨ t.clock.source = .fallback → s.link.state ≠ .up ∨ s.clock.source = .fallback) : PanelLaw p t := by
  obtain ⟨hH, hV, hdark, hsetpoint, -, hnone, hwindow, hmust⟩ := h
  refine ⟨hH, hV, hdark, hsetpoint, hcap, hnone, fun w hw => ?_, fun hb => hmust (hblack hb)⟩
  obtain ⟨hcolumn, hrow, hslot⟩ := hwindow w hw
  exact ⟨hcolumn, hrow, hshowing _ hslot⟩

/-- A panel that shows no frame keeps the law in every state. -/
theorem PanelLaw.anywhere (h : PanelLaw p s) (hwindow : p.window = none) (t : State) : PanelLaw p t := by
  obtain ⟨hH, hV, hdark, hsetpoint, -, hnone, -, -⟩ := h
  exact ⟨hH, hV, hdark, hsetpoint, (hnone hwindow).trans_le (Nat.zero_le _), hnone, fun w hw => by simp [hwindow] at hw,
    fun _ => hwindow⟩

/-- A panel goes black for the rest of its refresh (R72). -/
theorem PanelLaw.black (h : PanelLaw p s) (t : State) : PanelLaw p.black t := by
  obtain ⟨hH, hV, hdark, -⟩ := h
  refine ⟨hH, hV, fun hoff => ?_, Nat.zero_le _, Nat.zero_le _, fun _ => rfl, nofun, fun _ => rfl⟩
  obtain ⟨hdx, hdy, -⟩ := hdark hoff
  exact ⟨hdx, hdy, rfl⟩

/-- A panel's record whose level fields alone may differ: power, margins and what is shown are the same. -/
structure Panel.ShowsAs (q p : Panel) : Prop where
  power : q.power = p.power
  marginH : q.marginH = p.marginH
  marginV : q.marginV = p.marginV
  dx : q.dx = p.dx
  dy : q.dy = p.dy
  shown : q.shown = p.shown
  window : q.window = p.window

theorem Panel.ShowsAs.refl (p : Panel) : p.ShowsAs p := ⟨rfl, rfl, rfl, rfl, rfl, rfl, rfl⟩

theorem Panel.limit_shown_le (cap : Nat) (p : Panel) : (p.limit cap).shown ≤ cap := (Nat.min_le_right ..).trans (Nat.min_le_right ..)

theorem Panel.IsDark.limit (h : p.IsDark) (cap : Nat) : (p.limit cap).IsDark := by
  obtain ⟨hdx, hdy, hshown, hwindow⟩ := h
  exact ⟨hdx, hdy, by simp [Panel.limit, hshown], hwindow⟩

/-- The brightness is lowered to a cap and to the panel's setpoint, which may be new (R73). -/
theorem PanelLaw.limit (h : PanelLaw p s) (hq : q.ShowsAs p) (cap : Nat) : PanelLaw (q.limit cap) s := by
  obtain ⟨hH, hV, hdark, -, hcap, hnone, hwindow, hmust⟩ := h
  have hle : (q.limit cap).shown ≤ p.shown := (Nat.min_le_left ..).trans hq.shown.le
  refine ⟨?_, ?_, fun hoff => ?_, (Nat.min_le_right ..).trans (Nat.min_le_left ..), hle.trans hcap,
    fun hw => Nat.le_zero.1 (hle.trans (hnone (hq.window ▸ hw)).le), fun w hw => ?_, fun hb => hq.window.trans (hmust hb)⟩
  · simpa only [Panel.limit, hq.dx, hq.marginH] using hH
  · simpa only [Panel.limit, hq.dy, hq.marginV] using hV
  · simpa only [Panel.limit, hq.dx, hq.dy, hq.window] using hdark (hq.power ▸ hoff)
  · simpa only [Panel.limit, hq.dx, hq.dy, hq.marginH, hq.marginV] using hwindow w (hq.window ▸ hw)

/-! A panel and its demand (R65, Table 4-3). -/

theorem Panel.follow_follows (demand : Bool) (now : Time) (p : Panel) : FollowsDemand demand now p (p.follow demand now) := by
  refine ⟨fun hp hd => ?_, fun hp hd => ?_, fun hp hd => ?_, fun hstays => ?_⟩
  · simp only [Panel.follow, hp, hd]
  · simp only [Panel.follow, hp, hd]
  · simp only [Panel.follow, hp, hd, Panel.dark]
  · rcases hstays with hp | ⟨hp, hd⟩ | ⟨hp | hp, hd⟩ <;> simp only [Panel.follow, *]

theorem PanelLaw.follow (h : PanelLaw p s) (demand : Bool) (now : Time) : PanelLaw (p.follow demand now) s := by
  unfold Panel.follow
  split
  next hoff => exact Panel.IsDark.law (p := { p with power := .starting, seqEnd := now + 20000 }) (h.isDark (by simp [hoff])) s
  next hoff => exact Panel.IsDark.law (p := { p with power := .stopping, seqEnd := now + 10000 }) (h.isDark (by simp [hoff])) s
  next => exact Panel.IsDark.law (p := { p.dark with power := .stopping, seqEnd := now + 10000 }) p.isDark_dark s
  next => exact h

/-- The demand turns no panel ON; that takes the end of a power-up sequence. -/
theorem Panel.on_of_follow {demand : Bool} {now : Time} (h : (p.follow demand now).power = .on) : p.power = .on := by
  unfold Panel.follow at h
  split at h
  · cases h
  · cases h
  · cases h
  · exact h

/-! A panel at a latch (R69). -/

theorem natAbs_clampShift_le (margin : Nat) (x : Int) : (clampShift margin x).natAbs ≤ margin := by
  simp only [clampShift, saturate]
  omega

theorem State.latchedPanel_power (e : Eye) (s : State) : (s.latchedPanel e).panel.power = (s.panel e).power := by
  by_cases hon : (s.panel e).power = .on
  · cases hi : s.slotIn .showing with
    | none => rw [State.latchedPanel_of_nothing_showing hi]; rfl
    | some i =>
      cases hshows : s.showsFrame e s.frames.slots[i] with
      | true => rw [State.latchedPanel_of_shown hi hon hshows rfl]
      | false => rw [State.latchedPanel_of_not_shown hi hon hshows]; rfl
  · rw [State.latchedPanel_of_not_on hon]
    rfl

/-- What a latch makes of a panel keeps the law, whatever the panel was before. -/
theorem State.latchedPanel_law (e : Eye) (s : State) : PanelLaw (s.latchedPanel e).panel s := by
  by_cases hon : (s.panel e).power = .on
  · cases hi : s.slotIn .showing with
    | none =>
      rw [State.latchedPanel_of_nothing_showing hi]
      exact (Panel.isDark_dark _).law s
    | some i =>
      cases hshows : s.showsFrame e s.frames.slots[i] with
      | true =>
        rw [State.latchedPanel_of_shown hi hon hshows rfl]
        simp only [State.showsFrame, Bool.and_eq_true, beq_iff_eq] at hshows
        obtain ⟨⟨-, hup⟩, hcrystal⟩ := hshows
        refine ⟨natAbs_clampShift_le _ _, natAbs_clampShift_le _ _, fun hoff => absurd hon hoff, Nat.min_le_left .., Nat.min_le_right ..,
          nofun, fun w hw => ?_, fun hb => ?_⟩
        · obtain rfl := Option.some.inj hw
          exact ⟨rfl, rfl, State.phase_of_slotIn hi⟩
        · simp [hup, hcrystal] at hb
      | false =>
        rw [State.latchedPanel_of_not_shown hi hon hshows]
        exact Panel.IsDark.law (p := { (s.panel e).dark with starved := _ }) (Panel.isDark_dark _) s
  · rw [State.latchedPanel_of_not_on hon]
    exact (Panel.isDark_dark _).law s

end
end Sys2Proof.Machine
end

section
namespace Sys2Proof.Machine

/-! ### What the panels show together (R65, R68, R72, R73) -/

/-- The parts of the Scanout Unit that its law speaks of, and the cap in force. -/
def panelParts : List Part := [.leftPanel, .rightPanel, .latchDue, .limits]

section
variable {s t : State} {P : List Part}

theorem State.exists_on_iff : (∃ e, (s.panel e).power = .on) ↔ s.scanout.left.power = .on ∨ s.scanout.right.power = .on :=
  ⟨fun ⟨e, he⟩ => by cases e; exacts [.inl he, .inr he], fun h => h.elim (⟨.left, ·⟩) (⟨.right, ·⟩)⟩

theorem scanoutLaw_iff : ScanoutLaw s ↔
    (∀ e, PanelLaw (s.panel e) s) ∧ (s.scanout.latchDue.isSome ↔ ∃ e, (s.panel e).power = .on) := by
  rw [State.exists_on_iff]
  exact ⟨fun ⟨hleft, hright, hlatch⟩ => ⟨fun e => by cases e <;> assumption, hlatch⟩,
    fun ⟨hpanel, hlatch⟩ => ⟨hpanel .left, hpanel .right, hlatch⟩⟩

theorem ScanoutLaw.panel (h : ScanoutLaw s) (e : Eye) : PanelLaw (s.panel e) s := (scanoutLaw_iff.1 h).1 e

theorem ScanoutLaw.latch (h : ScanoutLaw s) : s.scanout.latchDue.isSome ↔ ∃ e, (s.panel e).power = .on := (scanoutLaw_iff.1 h).2

theorem ChangesOnly.panel_eq (h : ChangesOnly P s t) (hl : Part.leftPanel ∉ P) (hr : Part.rightPanel ∉ P) (e : Eye) :
    t.panel e = s.panel e := by
  cases e
  · exact h _ hl
  · exact h _ hr

/-- A SHOWING slot stays so. -/
def KeepsShowing (s t : State) : Prop := ∀ i : Fin 3, s.frames.slots[i].phase = .showing → t.frames.slots[i].phase = .showing

/-- The link stays UP and the source CRYSTAL: nothing bars sound but the stance (R92). -/
structure StaysAudible (s t : State) : Prop where
  up : s.link.state = .up → t.link.state = .up
  crystal : t.clock.source = .fallback → s.clock.source = .fallback

/-- Nothing has happened that turns a panel black: a SHOWING slot stays so as well (R72). -/
structure StaysLit (s t : State) : Prop extends StaysAudible s t where
  showing : KeepsShowing s t

theorem StaysAudible.of_changes (h : ChangesOnly P s t)
    (link : Part.link ∉ P ∨ (s.link.state = .up → t.link.state = .up) := by exact .inl (by decide))
    (clock : Part.clock ∉ P ∨ t.clock.source = s.clock.source := by exact .inl (by decide)) : StaysAudible s t where
  up := link.elim (fun hP hup => (h .link hP).1.trans hup) id
  crystal := fun hf => clock.elim (fun hP => h.clock_eq hP ▸ hf) (fun hsame => hsame ▸ hf)

theorem StaysLit.of_changes (h : ChangesOnly P s t) (slots : Part.slots ∉ P ∨ KeepsShowing s t := by exact .inl (by decide))
    (link : Part.link ∉ P ∨ (s.link.state = .up → t.link.state = .up) := by exact .inl (by decide))
    (clock : Part.clock ∉ P ∨ t.clock.source = s.clock.source := by exact .inl (by decide)) : StaysLit s t where
  toStaysAudible := .of_changes h link clock
  showing := slots.elim (fun hP i hi => by rw [(h .slots hP : t.frames.slots = _), hi]) id

theorem StaysAudible.black (h : StaysAudible s t) (hb : t.link.state ≠ .up ∨ t.clock.source = .fallback) :
    s.link.state ≠ .up ∨ s.clock.source = .fallback := hb.imp (mt h.up) h.crystal

/-- A change of other parts keeps the law. -/
theorem ScanoutLaw.of_changes (h : ScanoutLaw s) (hst : ChangesOnly P s t) (hP : ∀ p ∈ panelParts, p ∉ P) (hlit : StaysLit s t) :
    ScanoutLaw t := by
  have hpanel := hst.panel_eq (hP _ (by decide)) (hP _ (by decide))
  have hdue : t.scanout.latchDue = s.scanout.latchDue := hst .latchDue (hP _ (by decide))
  obtain ⟨hcap, -⟩ : t.power.cap = s.power.cap ∧ _ := hst .limits (hP _ (by decide))
  refine scanoutLaw_iff.2 ⟨fun e => ?_, by simp only [hdue, hpanel, h.latch]⟩
  have ⟨_, _, _, _, hshown, _⟩ := h.panel e
  rw [hpanel]
  exact (h.panel e).of_state (hcap ▸ hshown) hlit.showing hlit.black

/-- Panels that are dark or black keep the law in every state. -/
theorem ScanoutLaw.of_anywhere (hpanel : ∀ e, ∀ u, PanelLaw (t.panel e) u)
    (hlatch : t.scanout.latchDue.isSome ↔ ∃ e, (t.panel e).power = .on) : ScanoutLaw t :=
  scanoutLaw_iff.2 ⟨fun e => hpanel e t, hlatch⟩

/-! Demand, black and brightness. -/

/-- The latch timer is stopped exactly where no panel is ON (R68). -/
theorem Scanout.stopIdleTimer_eq (x : Scanout) : x.stopIdleTimer =
    { x with latchDue := if x.left.power = .on ∨ x.right.power = .on then x.latchDue else none } := by
  unfold Scanout.stopIdleTimer
  split <;> rfl

theorem State.followDemand_scanout (s : State) : s.followDemand.scanout =
    Scanout.stopIdleTimer { s.scanout with
      left := s.scanout.left.follow s.demand s.clock.now
      right := s.scanout.right.follow s.demand s.clock.now } := rfl

theorem State.followDemand_panel (e : Eye) (s : State) : s.followDemand.panel e = (s.panel e).follow s.demand s.clock.now := by
  cases e <;> simp only [State.panel, State.followDemand_scanout, Scanout.stopIdleTimer_eq]

theorem State.followDemand_latchDue (s : State) : s.followDemand.scanout.latchDue =
    if s.followDemand.scanout.left.power = .on ∨ s.followDemand.scanout.right.power = .on then s.scanout.latchDue else none := by
  simp only [State.followDemand_scanout, Scanout.stopIdleTimer_eq]

/-- The latch timer follows the panels: it runs on while one is left ON, and stops with the last (R68). -/
theorem State.followDemand_latch (h : s.scanout.latchDue.isSome ↔ ∃ e, (s.panel e).power = .on) :
    s.followDemand.scanout.latchDue.isSome ↔ ∃ e, (s.followDemand.panel e).power = .on := by
  rw [State.followDemand_latchDue]
  split
  next hon =>
    obtain ⟨e, he⟩ := State.exists_on_iff.2 hon
    rw [State.followDemand_panel] at he
    exact iff_of_true (h.2 ⟨e, Panel.on_of_follow he⟩) ⟨e, by rwa [State.followDemand_panel]⟩
  next hnone => exact iff_of_false (by simp) (mt State.exists_on_iff.1 hnone)

theorem ScanoutLaw.followDemand (h : ScanoutLaw s) : ScanoutLaw s.followDemand := by
  refine scanoutLaw_iff.2 ⟨fun e => ?_, State.followDemand_latch h.latch⟩
  have hpanel := (h.panel e).follow s.demand s.clock.now
  have ⟨_, _, _, _, hcap, _⟩ := hpanel
  rw [State.followDemand_panel]
  exact hpanel.of_state hcap (fun _ hi => hi) id

/-- A new state of the Power Unit: both panels follow the demand and are held to the new cap (R65, R73, R111). -/
theorem ScanoutLaw.push (h : ScanoutLaw s) (p : Power) : ScanoutLaw (s.withPower p).followDemand.limitBrightness := by
  have hpanel : ∀ e, (s.withPower p).followDemand.limitBrightness.panel e =
      ((s.panel e).follow (s.withPower p).demand s.clock.now).limit p.cap := fun e => by
    rw [State.limitBrightness_panel, State.followDemand_panel]
    rfl
  have hlatch := State.followDemand_latch (s := s.withPower p) h.latch
  refine scanoutLaw_iff.2 ⟨fun e => ?_, ?_⟩
  · rw [hpanel]
    exact (((h.panel e).follow _ _).limit (.refl _) _).of_state (Panel.limit_shown_le ..) (fun _ hi => hi) id
  · simp only [State.limitBrightness_panel]
    exact hlatch

theorem State.blackOut_panel (e : Eye) (s : State) : s.blackOut.panel e = (s.panel e).black := by
  cases e <;> rfl

/-- Both panels go black, whatever has become of the link, the clock and the slots (R72). -/
theorem ScanoutLaw.blackOut (h : ScanoutLaw s) (hst : t.scanout = s.scanout) : ScanoutLaw t.blackOut := by
  have hpanel : ∀ e, t.blackOut.panel e = (s.panel e).black := fun e => by
    rw [State.blackOut_panel]
    cases e <;> simp only [State.panel, hst]
  refine .of_anywhere (fun e u => by rw [hpanel]; exact (h.panel e).black u) ?_
  simp only [hpanel]
  exact (congrArg (·.latchDue) hst : t.scanout.latchDue = _) ▸ h.latch

/-! Power sequences and latches. -/

theorem State.exists_on_setPanel (e : Eye) (p : Panel) (s : State) :
    (∃ d, ((s.setPanel e p).panel d).power = .on) ↔ p.power = .on ∨ ∃ d, d ≠ e ∧ (s.panel d).power = .on := by
  constructor
  · rintro ⟨d, hd⟩
    by_cases hde : d = e
    · subst hde
      exact .inl (by rwa [State.panel_setPanel] at hd)
    · exact .inr ⟨d, hde, by rwa [State.panel_setPanel_of_ne hde] at hd⟩
  · rintro (hp | ⟨d, hde, hd⟩)
    · exact ⟨e, by rwa [State.panel_setPanel]⟩
    · exact ⟨d, by rwa [State.panel_setPanel_of_ne hde]⟩

/-- One panel is replaced by a dark one. -/
theorem ScanoutLaw.setPanel_dark (h : ScanoutLaw s) (e : Eye) {p : Panel} (hp : p.IsDark)
    (hlatch : s.scanout.latchDue.isSome ↔ p.power = .on ∨ ∃ d, d ≠ e ∧ (s.panel d).power = .on) : ScanoutLaw (s.setPanel e p) := by
  refine scanoutLaw_iff.2 ⟨fun d => ?_, by rw [State.setPanel_scanout_latchDue, State.exists_on_setPanel, hlatch]⟩
  by_cases hde : d = e
  · subst hde
    rw [State.panel_setPanel]
    exact hp.law _
  · have ⟨_, _, _, _, hcap, _⟩ := h.panel d
    rw [State.panel_setPanel_of_ne hde]
    exact (h.panel d).of_state (by rwa [State.setPanel_power]) (by simp) (by simp)

/-- A latch finds a panel ON, and judges both anew (R68, R69). -/
theorem State.frameLatch_law (hon : ∃ e, (s.panel e).power = .on) : ScanoutLaw s.frameLatch := by
  have hst := s.frameLatch_changes
  have hpromote := s.promote_changes
  obtain ⟨hcap, -⟩ : s.frameLatch.power.cap = s.power.cap ∧ _ := hst .limits (by decide)
  obtain ⟨hcap', -⟩ : s.promote.power.cap = s.power.cap ∧ _ := hpromote .limits (by decide)
  obtain ⟨hlink, -⟩ : s.frameLatch.link.state = s.link.state ∧ _ := hst .link (by decide)
  obtain ⟨hlink', -⟩ : s.promote.link.state = s.link.state ∧ _ := hpromote .link (by decide)
  refine scanoutLaw_iff.2 ⟨fun e => ?_, iff_of_true ?_ ?_⟩
  · have hlaw := s.promote.latchedPanel_law e
    have ⟨_, _, _, _, hshown, _⟩ := hlaw
    rw [State.frameLatch_panel]
    refine hlaw.of_state (by rwa [hcap, ← hcap']) (fun i hi => by rwa [State.frameLatch_frames]) ?_
    rw [hlink, hlink', hst.clock_eq (by decide), hpromote.clock_eq (by decide)]
    exact id
  · rw [State.frameLatch_scanout]
    rfl
  · obtain ⟨e, he⟩ := hon
    exact ⟨e, by rw [State.frameLatch_panel, State.latchedPanel_power, State.promote_panel, he]⟩

theorem ScanoutLaw.panelOn (h : ScanoutLaw s) (e : Eye) : ScanoutLaw (s.panelOn e) := by
  unfold State.panelOn
  dsimp only
  split
  next hstopped => exact State.frameLatch_law ((State.exists_on_setPanel ..).2 (.inl rfl))
  next hruns =>
    rw [State.setPanel_scanout_latchDue, Option.isNone_iff_eq_none, ← ne_eq, ← Option.isSome_iff_ne_none] at hruns
    exact h.setPanel_dark e (p := { (s.panel e).dark with power := .on }) (Panel.isDark_dark (s.panel e)) (iff_of_true hruns (.inl rfl))

/-- A panel that was not ON ends its power-down sequence (R65). -/
theorem ScanoutLaw.panelDown (h : ScanoutLaw s) {e : Eye} (hoff : (s.panel e).power ≠ .on) : ScanoutLaw (s.panelDown e) := by
  have hothers : s.scanout.latchDue.isSome ↔ ∃ d, d ≠ e ∧ (s.panel d).power = .on :=
    h.latch.trans ⟨fun ⟨d, hd⟩ => ⟨d, fun hde => hoff (hde ▸ hd), hd⟩, fun ⟨d, _, hd⟩ => ⟨d, hd⟩⟩
  have hdark := (h.panel e).isDark hoff
  unfold State.panelDown
  dsimp only
  split
  · exact h.setPanel_dark e (p := { s.panel e with power := .starting, seqEnd := s.clock.now + 20000 }) hdark (hothers.trans (by simp))
  · exact h.setPanel_dark e (p := { s.panel e with power := .off }) hdark (hothers.trans (by simp))

end
end Sys2Proof.Machine
end

section
namespace Sys2Proof.Machine

/-! ### A WRITE to SCANOUT (R62, R63, R65) -/

theorem decodeRefresh_code (x : RefreshCode) : decodeRefresh (slotNat x.code) = some x := by
  cases x <;> rfl

/-- The record with its masked fields written. -/
def Scanout.picked (mask : BitVec 32) (enable : Bool) (refresh : RefreshCode) (x : Scanout) : Scanout :=
  { x with enable := pick mask 0 enable x.enable, refresh := pick mask 1 refresh x.refresh }

/-- The record is set and both panels follow the demand it makes. -/
def State.demandSet (x : Scanout) (s : State) : State := ({ s with scanout := x }).followDemand

section
variable {mask : BitVec 32} {enable : Bool} {refresh : RefreshCode} {ignored : List Slot} {extra : List Byte}

theorem Scanout.written_maskedImage (x : Scanout) : x.written mask
    ((maskedImage mask [slotBool enable, slotNat refresh.code] ignored).flatMap (fun v => le 4 v.toNat) ++ extra) =
      .ok (x.picked mask enable refresh) := by
  unfold Scanout.written
  rw [maskedField_maskedImage (by simp) (fun _ => decodeBool_slotBool enable),
    maskedField_maskedImage (by simp) (fun _ => decodeRefresh_code refresh)]
  rfl

theorem writeScanoutAct_eq (hmask : mask.toNat < 2 ^ 2) {r : Request} (hoperands : r.operands =
    writeOperands 4 0 mask (maskedImage mask [slotBool enable, slotNat refresh.code] ignored) extra) (s : State) :
    writeScanoutAct r s = if mask.getLsbD 1 = true ∧ ¬ s.bothOff = true then .busy (some 1)
      else .done (s.demandSet (s.scanout.picked mask enable refresh)).scanout.image
        (s.demandSet (s.scanout.picked mask enable refresh)) := by
  have hlength : (maskedImage mask [slotBool enable, slotNat refresh.code] ignored).length = 2 := by
    rw [maskedImage_length]
    rfl
  have hcount : Table.scanout.writableSlots ≤ s.fieldCount .scanout := show 2 ≤ 3 by decide
  rw [writeScanoutAct, writeAct_of_write hoperands hcount hlength hmask (by decide) (by decide) (fun _ _ => rfl)]
  simp only [Scanout.written_maskedImage, ranged]
  rfl

end

theorem State.scanoutRecord_changes (enable : Bool) (refresh : RefreshCode) (s : State) :
    ChangesOnly [.scanoutEnable, .refresh] s { s with scanout := { s.scanout with enable := enable, refresh := refresh } } := by
  intro p hp
  cases p <;> simp_all [Part.same]

theorem State.demandSet_changes (mask : BitVec 32) (enable : Bool) (refresh : RefreshCode) (s : State) :
    ChangesOnly [.scanoutEnable, .refresh, .leftPanel, .rightPanel, .latchDue] s
      (s.demandSet (s.scanout.picked mask enable refresh)) :=
  (s.scanoutRecord_changes _ _).step (State.followDemand_changes _) (by decide) (by decide)

theorem State.demandSet_enable (x : Scanout) (s : State) : (s.demandSet x).scanout.enable = x.enable :=
  State.followDemand_changes _ .scanoutEnable (by decide)

theorem State.demandSet_refresh (x : Scanout) (s : State) : (s.demandSet x).scanout.refresh = x.refresh :=
  State.followDemand_changes _ .refresh (by decide)

/-- Both panels follow the demand of the record as written (R65, Table 4-3). -/
theorem State.demandSet_follows (mask : BitVec 32) (enable : Bool) (refresh : RefreshCode) (e : Eye) (s : State) :
    FollowsDemand ((s.demandSet (s.scanout.picked mask enable refresh)).scanout.enable && s.stance.panels) s.clock.now (s.panel e)
      ((s.demandSet (s.scanout.picked mask enable refresh)).panel e) := by
  rw [State.demandSet_enable, State.demandSet, State.followDemand_panel]
  cases e <;> exact Panel.follow_follows ..

theorem State.demandSet_latchDue (x : Scanout) (s : State) : (s.demandSet x).scanout.latchDue =
    if (s.demandSet x).scanout.left.power = .on ∨ (s.demandSet x).scanout.right.power = .on then x.latchDue else none :=
  State.followDemand_latchDue _

end Sys2Proof.Machine

open Sys2Proof Sys2Proof.Machine

/-- Settles O40: the WRITE comes to the panels' power if a refresh code is masked; an accepted one is the record's fields and the demand
that they make. -/
theorem writeScanout : Obligations.WriteScanout := by
  intro mask enable refresh ignored extra hmask r hop hoperands rest s h
  have hrow : r.service = .writeScanout := by
    have htable : r.table = some .scanout := Request.table_of_write hoperands
    simp [Request.service, hop, htable]
  have hact := writeScanoutAct_eq hmask hoperands (s.dequeued rest)
  refine ⟨_, exec_atService rfl h hrow, fun hmasked hon => ?busy, fun haccepted => ?written⟩
  case busy =>
    rw [if_pos ⟨hmasked, fun hoff => hon (State.bothOff_iff.1 hoff)⟩] at hact
    exact State.afterService_busy hact
  case written =>
    have hgoes : ¬ (mask.getLsbD 1 = true ∧ ¬ (s.dequeued rest).bothOff = true) := fun ⟨hmasked, hon⟩ =>
      hon (State.bothOff_iff.2 (haccepted.resolve_left (by simp [hmasked])))
    rw [if_neg hgoes] at hact
    have hchanges := (s.dequeued rest).demandSet_changes mask enable refresh
    rw [State.afterService_done hact]
    exact ⟨State.demandSet_enable .., State.demandSet_refresh .., hchanges .latchCount (by decide),
      fun e => State.demandSet_follows mask enable refresh e (s.dequeued rest), State.demandSet_latchDue ..,
      Answered.place hchanges (by decide) _, hchanges.place (by decide) _⟩
end

section
namespace Sys2Proof.Machine

/-! ### A panel-ready completion (R65, R68) -/

/-- A panel turned ON, black until a latch. -/
def State.panelLit (e : Eye) (s : State) : State := s.setPanel e { (s.panel e).dark with power := .on }

/-- The latch timer's next latch. -/
def State.setLatchDue (d : Option Time) (s : State) : State := { s with scanout := { s.scanout with latchDue := d } }

section
variable {e : Eye} {s : State}

theorem State.panelLit_changes (e : Eye) (s : State) : ChangesOnly [.leftPanel, .rightPanel] s (s.panelLit e) := s.setPanel_changes e _

theorem State.setLatchDue_changes (d : Option Time) (s : State) : ChangesOnly [.latchDue] s (s.setLatchDue d) := by
  intro p hp
  cases p <;> simp_all [Part.same, State.setLatchDue]

theorem State.panelOn_of_running (h : s.scanout.latchDue.isSome) : s.panelOn e = s.panelLit e :=
  if_neg (by rw [State.setPanel_scanout_latchDue]; simpa [← Option.isSome_iff_ne_none] using h)

theorem State.panelOn_of_stopped (h : s.scanout.latchDue = none) : s.panelOn e = (s.panelLit e).frameLatch :=
  if_pos (by rw [State.setPanel_scanout_latchDue, h]; rfl)

theorem State.panelLit_panel_self : (s.panelLit e).panel e = { (s.panel e).dark with power := .on } := State.panel_setPanel ..

theorem State.panelLit_panel_of_ne {d : Eye} (h : d ≠ e) : (s.panelLit e).panel d = s.panel d := State.panel_setPanel_of_ne h ..

/-! A latch sets the timer anew, whatever it stood at. -/

theorem State.promote_setLatchDue (d : Option Time) (s : State) : (s.setLatchDue d).promote = s.promote.setLatchDue d := by
  have hslot : ∀ ph, (s.setLatchDue d).slotIn ph = s.slotIn ph := fun _ => rfl
  unfold State.promote
  rw [hslot, hslot]
  cases s.slotIn .ready <;> cases s.slotIn .showing <;> rfl

theorem State.frameLatch_setLatchDue (d : Option Time) (s : State) : (s.setLatchDue d).frameLatch = s.frameLatch := by
  rw [State.frameLatch_eq, State.frameLatch_eq]
  unfold State.beforeTriggers
  rw [State.promote_setLatchDue]
  rfl

theorem State.runTo_now (s : State) : s.runTo s.clock.now = s :=
  if_pos (by simp [State.reached, atOrBefore])

/-- A latch due at the present moment is FRAME_LATCH's whole effect (R69). -/
theorem exec_frameLatch_now (hserved : s.served) (hruns : s.timeRuns = true) (hdue : s.scanout.latchDue = some s.clock.now) :
    exec .frameLatch s = .next s.frameLatch :=
  (State.inTurn_timed (due := (·.scanout.latchDue)) hserved hruns hdue).trans (by rw [State.runTo_now])

/-- Promotion is spoken of the slots alone. -/
theorem Promoted.congr {u v t : State} (h : Promoted u v) (hu : u.frames = s.frames) (hv : v.frames = t.frames) : Promoted s t := by
  unfold Promoted State.slotIn at h ⊢
  rwa [hu, hv] at h

theorem State.frameLatch_latchCount (s : State) : s.frameLatch.scanout.latchCount = s.scanout.latchCount + 1 := by
  rw [State.frameLatch_scanout, ← s.promote_changes.scanout_eq (by decide)]
  rfl

theorem State.frameLatch_latchDue (s : State) : s.frameLatch.scanout.latchDue =
    some (s.clock.now + BitVec.ofNat 32 s.scanout.refresh.period) := by
  rw [State.frameLatch_scanout, ← s.promote_changes.scanout_eq (by decide), ← s.promote_changes.clock_eq (by decide)]
  rfl

theorem State.runTo_timeRuns (d : Time) (s : State) : (s.runTo d).timeRuns = s.timeRuns := by
  simp only [State.timeRuns, State.runTo_clock_source, State.runTo_clock_crystalPresent]

theorem State.runTo_stance (d : Time) (s : State) : (s.runTo d).stance = s.stance := by
  simp only [State.stance, State.runTo_power]

theorem State.served_of_mgmt {t : State} (h : t.mgmt = s.mgmt) (hserved : s.served) : t.served := by
  unfold State.served
  rwa [h]

theorem State.timeRuns_of_clock {t : State} (h : t.clock = s.clock) : t.timeRuns = s.timeRuns := by
  simp only [State.timeRuns, h]

/-- The latch of a panel just turned ON is FRAME_LATCH's whole effect, due at that moment. -/
theorem exec_frameLatch_panelLit (hserved : s.served) (hruns : s.timeRuns = true) :
    exec .frameLatch ((s.panelLit e).setLatchDue (some s.clock.now)) = .next (s.panelLit e).frameLatch := by
  have hclock : ((s.panelLit e).setLatchDue (some s.clock.now)).clock = s.clock := State.setPanel_clock ..
  have hmgmt : ((s.panelLit e).setLatchDue (some s.clock.now)).mgmt = s.mgmt := State.setPanel_mgmt ..
  rw [← State.frameLatch_setLatchDue (some s.clock.now)]
  exact exec_frameLatch_now (State.served_of_mgmt hmgmt hserved) ((State.timeRuns_of_clock hclock).trans hruns) (by rw [hclock]; rfl)

end
end Sys2Proof.Machine

open Sys2Proof Sys2Proof.Machine

/-- Settles O58: time runs on to the end of the sequence, which a panel-ready completion ends with the latch if the timer was stopped. -/
theorem panelSequences : Obligations.PanelSequences := by
  refine ⟨fun e s hserved hruns hpower u hu => ?ready, fun e s hserved hruns hpower u hu => ?down⟩
  case ready =>
    have hrun : ChangesOnly [.clock, .lane] s u := hu ▸ s.runTo_changes _
    have hpanel := hrun.panel_eq (by decide) (by decide)
    have hscanout := hrun.scanout_eq (by decide)
    have hon := u.panelOn_changes e
    have hlit := u.panelLit_changes e
    refine ⟨u.panelOn e, hu ▸ State.inTurn_timed (due := (·.panelReadyDue e)) hserved hruns (if_pos hpower),
      hon.clock_eq (by decide), hon.link_eq (by decide), ?_⟩
    cases hdue : s.scanout.latchDue with
    | some d =>
      rw [State.panelOn_of_running (by rw [hscanout, hdue]; rfl)]
      refine ⟨by rw [State.panelLit_panel_self], fun d hd => by rw [State.panelLit_panel_of_ne hd, hpanel],
        fun _ => ⟨?_, fun d hd => ?_, ?_⟩, nofun⟩
      · rw [State.panelLit_panel_self, hpanel]
        rfl
      · rw [State.panelLit_panel_of_ne hd, hpanel]
      · exact hrun.step hlit (by decide) (by decide)
    | none =>
      rw [State.panelOn_of_stopped (by rw [hscanout, hdue])] at hon ⊢
      have hpowers : ∀ d, ((u.panelLit e).frameLatch.panel d).power = ((u.panelLit e).panel d).power := fun d => by
        rw [State.frameLatch_panel, State.latchedPanel_power, State.promote_panel]
      refine ⟨by rw [hpowers, State.panelLit_panel_self], fun d hd => by rw [hpowers, State.panelLit_panel_of_ne hd, hpanel], nofun,
        fun _ => ⟨⟨(u.panelLit e).setLatchDue (some u.clock.now), ?_, fun d hd => ?_, rfl,
          hlit.step (State.setLatchDue_changes _ _) (by decide) (by decide), ?_⟩, ?_, ?_, ?_, hrun.step hon (by decide) (by decide)⟩⟩
      · exact State.panelLit_panel_self.trans (by rw [hpanel]; rfl)
      · exact (State.panelLit_panel_of_ne hd).trans (hpanel d)
      · exact exec_frameLatch_panelLit (State.served_of_mgmt (by rw [hu, State.runTo_mgmt]) hserved)
          (by rw [hu, State.runTo_timeRuns, hruns])
      · rw [State.frameLatch_latchCount, State.panelLit, State.setPanel_scanout_latchCount, hscanout]
      · exact (State.promote_promoted _).congr (by rw [State.panelLit, State.setPanel_frames, hu, State.runTo_frames])
          (State.frameLatch_frames _).symm
      · rw [State.frameLatch_latchDue, State.panelLit, State.setPanel_clock, State.setPanel_scanout_refresh, hscanout]
  case down =>
    have hrun : ChangesOnly [.clock, .lane] s u := hu ▸ s.runTo_changes _
    have hpanel := hrun.panel_eq (by decide) (by decide)
    have hdown := u.panelDown_changes e
    have hdemand : u.demand = true ↔ s.scanout.enable = true ∧ s.stance.panels = true := by
      rw [State.demand, hrun.scanout_eq (by decide), hu, State.runTo_stance, Bool.and_eq_true]
    refine ⟨u.panelDown e, hu ▸ State.inTurn_timed (due := (·.powerDownDue e)) hserved hruns (if_pos hpower),
      hdown.clock_eq (by decide), hdown.link_eq (by decide), ?_, fun d hd => (State.panel_setPanel_of_ne hd ..).trans (hpanel d),
      hrun.step hdown (by decide) (by decide)⟩
    refine (State.panel_setPanel ..).trans ?_
    simp only [hpanel, hdemand]
end

section
namespace Sys2Proof.Machine

/-! ### A playout queue by itself (R81, R83 to R88) -/

/-- What is said of a playout queue whatever its start threshold is (R84, R86, R93). -/
def Playout.WellFormed (q : Playout) : Prop :=
  (q.phase = .idle → q = Playout.emptied) ∧ (q.phase = .playing → q.fade = 0) ∧ q.fade ≤ 31 ∧
  (q.phase = .playing ∨ q.fade ≠ 0 → q.last.isSome ∨ q.pairs ≠ [])

section
variable {q : Playout} {start : Nat}

theorem playoutLaw_iff : PlayoutLaw start q ↔ q.WellFormed ∧ (q.phase = .priming → q.pairs.length < start) :=
  ⟨fun ⟨hidle, hpriming, hplaying, hfade, hlast⟩ => ⟨⟨hidle, hplaying, hfade, hlast⟩, hpriming⟩,
    fun ⟨⟨hidle, hplaying, hfade, hlast⟩, hpriming⟩ => ⟨hidle, hpriming, hplaying, hfade, hlast⟩⟩

theorem PlayoutLaw.wellFormed (h : PlayoutLaw start q) : q.WellFormed := (playoutLaw_iff.1 h).1

theorem playoutLaw_emptied (start : Nat) : PlayoutLaw start Playout.emptied :=
  ⟨fun _ => rfl, nofun, nofun, Nat.zero_le _, fun h => h.elim nofun (absurd rfl)⟩

/-- A queue judged against a start threshold, which may be new, keeps the law with it (R81, R84). -/
theorem Playout.WellFormed.startIfPrimed (h : q.WellFormed) (hstart : 1 ≤ start) : PlayoutLaw start (q.startIfPrimed start) := by
  unfold Playout.startIfPrimed
  split
  next hprimed =>
    obtain ⟨-, hlength⟩ := hprimed
    exact ⟨nofun, nofun, fun _ => rfl, Nat.zero_le _, fun _ => .inr (List.ne_nil_of_length_pos (hstart.trans hlength))⟩
  next hprimed => exact playoutLaw_iff.2 ⟨h, fun hpriming => not_le.1 fun hlength => hprimed ⟨hpriming, hlength⟩⟩

theorem PlayoutLaw.append (h : PlayoutLaw start q) (hstart : 1 ≤ start) (p : SoundPair) : PlayoutLaw start (q.append start p) := by
  obtain ⟨hidle, hplaying, hfade, -⟩ := h.wellFormed
  refine Playout.WellFormed.startIfPrimed ⟨fun hphase => ?_, fun hphase => hplaying ?_, hfade, fun _ => .inr (by simp)⟩ hstart
  · dsimp only at hphase
    split at hphase <;> contradiction
  · dsimp only at hphase
    split at hphase
    · cases hphase
    · exact hphase

theorem PlayoutLaw.appendAll (h : PlayoutLaw start q) (hstart : 1 ≤ start) (ps : List SoundPair) :
    PlayoutLaw start (Playout.appendAll start ps q).2 := by
  induction ps generalizing q with
  | nil => exact h
  | cons p ps ih =>
    unfold Playout.appendAll
    split
    · exact ih (h.append hstart p)
    · exact h

theorem playoutLaw_of_playing (hphase : q.phase = .playing) : PlayoutLaw start q ↔ q.fade = 0 ∧ (q.last.isSome ∨ q.pairs ≠ []) := by
  simp only [PlayoutLaw, hphase, reduceCtorEq, false_implies, true_and, true_or, true_implies]
  exact ⟨fun ⟨hfade, _, hlast⟩ => ⟨hfade, hlast⟩, fun ⟨hfade, hlast⟩ => ⟨hfade, by omega, hlast⟩⟩

theorem playoutLaw_of_priming (hphase : q.phase = .priming) : PlayoutLaw start q ↔
    q.pairs.length < start ∧ q.fade ≤ 31 ∧ (q.fade ≠ 0 → q.last.isSome ∨ q.pairs ≠ []) := by
  simp only [PlayoutLaw, hphase, reduceCtorEq, false_implies, true_and, false_or, true_implies]

/-- A PLAYING queue that has no pair left underruns into PRIMING, empty and with its last pair known (R86). -/
theorem PlayoutLaw.tick (h : PlayoutLaw start q) (hstart : 1 ≤ start) : PlayoutLaw start q.tick.1 := by
  obtain ⟨phase, pairs, fade, last, hold⟩ := q
  cases phase with
  | idle => exact h
  | playing =>
    obtain ⟨hfade, hlast⟩ := (playoutLaw_of_playing rfl).1 h
    cases pairs with
    | nil => exact (playoutLaw_of_priming rfl).2 ⟨hstart, (by decide : 1 ≤ 31), fun _ => hlast⟩
    | cons p ps => exact (playoutLaw_of_playing rfl).2 ⟨hfade, .inl rfl⟩
  | priming =>
    obtain ⟨hlength, hfade, hlast⟩ := (playoutLaw_of_priming rfl).1 h
    by_cases hsilent : fade = 0
    · simpa only [Playout.tick, hsilent, if_true] using h
    · simp only [Playout.tick, hsilent, if_false]
      exact (playoutLaw_of_priming rfl).2 ⟨hlength, by dsimp only; split <;> omega, fun _ => hlast hsilent⟩

/-- A slip check leaves a PLAYING queue its last pair, or a pair to play (R88). -/
theorem PlayoutLaw.slip {low high : Nat} (h : PlayoutLaw start q) (hhigh : 1 ≤ high) : PlayoutLaw start (q.slip low high) := by
  unfold Playout.slip
  split
  · exact h
  next hplays =>
    have hphase : q.phase = .playing := not_not.1 hplays
    obtain ⟨hfade, hlast⟩ := (playoutLaw_of_playing hphase).1 h
    split
    next hover =>
      have hleft : q.pairs.tail ≠ [] := List.ne_nil_of_length_pos (by rw [List.length_tail]; omega)
      exact (playoutLaw_of_playing (q := { q with pairs := q.pairs.tail }) hphase).2 ⟨hfade, .inr hleft⟩
    · split
      · exact (playoutLaw_of_playing (q := { q with hold := true }) hphase).2 ⟨hfade, hlast⟩
      · exact h

end
end Sys2Proof.Machine
end

section
namespace Sys2Proof.Machine

/-! ### The two playout queues and silence (R81, R83 to R88, R92, R93) -/

/-- Both playout queues keep their law with the thresholds in force, and these keep their constraints (R81). -/
def PlayoutsLaw (x : Sound) : Prop :=
  PlayoutLaw x.audio.startA x.queueA ∧ PlayoutLaw x.audio.startB x.queueB ∧ (audioConstraints x.audio).all (·.1) = true

/-- The parts of the Sound Unit that its law speaks of, and the stance that may bar sound. -/
def playoutParts : List Part := [.queueA, .queueB, .audio, .stances, .stance]

theorem audioConstraints_hold_iff {a : AudioRecord} : (audioConstraints a).all (·.1) = true ↔
    a.slipLow < a.startA ∧ a.startA < a.slipHigh ∧ a.slipLow < a.startB ∧ a.startB < a.slipHigh := by
  simp [audioConstraints]

section
variable {s t : State} {P : List Part}

theorem State.soundBarred_iff : s.soundBarred = true ↔ s.link.state ≠ .up ∨ s.clock.source = .fallback ∨ s.stance.sound = false := by
  simp [State.soundBarred, or_assoc]

theorem silenceLaw_iff : SilenceLaw s ↔
    (s.soundBarred = true → s.sound.queueA = Playout.emptied ∧ s.sound.queueB = Playout.emptied) ∧ PlayoutsLaw s.sound := .rfl

theorem SilenceLaw.playouts (h : SilenceLaw s) : PlayoutsLaw s.sound := (silenceLaw_iff.1 h).2

theorem ChangesOnly.stance_eq (h : ChangesOnly P s t) (hstances : Part.stances ∉ P) (hstance : Part.stance ∉ P) : t.stance = s.stance := by
  have hrecords : t.power.stances = s.power.stances := h .stances hstances
  obtain ⟨-, heffect⟩ : _ ∧ t.power.inEffect = s.power.inEffect := h .stance hstance
  simp only [State.stance, hrecords, heffect]

/-- Nothing has happened that bars sound. -/
theorem StaysAudible.barred (h : StaysAudible s t) (hstance : s.stance.sound = true → t.stance.sound = true) (hb : t.soundBarred = true) :
    s.soundBarred = true := by
  rw [State.soundBarred_iff] at hb ⊢
  refine hb.imp (mt h.up) (.imp h.crystal fun hsound => Bool.eq_false_iff.2 fun hs => ?_)
  rw [hstance hs] at hsound
  cases hsound

theorem ChangesOnly.barred (h : ChangesOnly P s t) (hP : ∀ p ∈ [Part.stances, .stance], p ∉ P) (hlit : StaysAudible s t) :
    t.soundBarred = true → s.soundBarred = true :=
  hlit.barred (h.stance_eq (hP _ (by decide)) (hP _ (by decide)) ▸ id)

/-- A change that bars no sound and leaves an empty queue empty. -/
theorem SilenceLaw.of_playouts (h : SilenceLaw s) (hbarred : t.soundBarred = true → s.soundBarred = true)
    (hA : s.sound.queueA = Playout.emptied → t.sound.queueA = Playout.emptied)
    (hB : s.sound.queueB = Playout.emptied → t.sound.queueB = Playout.emptied) (hlaw : PlayoutsLaw t.sound) : SilenceLaw t :=
  silenceLaw_iff.2 ⟨fun hb => ((silenceLaw_iff.1 h).1 (hbarred hb)).imp hA hB, hlaw⟩

theorem PlayoutsLaw.of_changes (h : PlayoutsLaw s.sound) (hst : ChangesOnly P s t) (hP : ∀ p ∈ [Part.queueA, .queueB, .audio], p ∉ P) :
    PlayoutsLaw t.sound := by
  have hA : t.sound.queueA = s.sound.queueA := hst .queueA (hP _ (by decide))
  have hB : t.sound.queueB = s.sound.queueB := hst .queueB (hP _ (by decide))
  have haudio : t.sound.audio = s.sound.audio := hst .audio (hP _ (by decide))
  unfold PlayoutsLaw
  rwa [hA, hB, haudio]

/-- A change of other parts keeps the law. -/
theorem SilenceLaw.of_changes (h : SilenceLaw s) (hst : ChangesOnly P s t) (hP : ∀ p ∈ playoutParts, p ∉ P) (hlit : StaysAudible s t) :
    SilenceLaw t := by
  have hA : t.sound.queueA = s.sound.queueA := hst .queueA (hP _ (by decide))
  have hB : t.sound.queueB = s.sound.queueB := hst .queueB (hP _ (by decide))
  exact h.of_playouts (hst.barred (fun p hp => hP p (by revert p; decide)) hlit) hA.trans hB.trans
    (h.playouts.of_changes hst fun p hp => hP p (by revert p; decide))

/-- Once the queues are emptied if sound is barred, sound is silent while it is barred (R93). -/
theorem PlayoutsLaw.emptyIfBarred (h : PlayoutsLaw s.sound) : SilenceLaw s.emptyIfBarred := by
  have ⟨_, _, hconstraints⟩ := h
  unfold State.emptyIfBarred
  split
  · exact silenceLaw_iff.2 ⟨fun _ => ⟨rfl, rfl⟩, playoutLaw_emptied _, playoutLaw_emptied _, hconstraints⟩
  next hfree => exact silenceLaw_iff.2 ⟨fun hb => absurd hb hfree, h⟩

theorem PlayoutsLaw.start_pos (h : PlayoutsLaw s.sound) (k : Sink) : 1 ≤ s.sound.audio.start k := by
  obtain ⟨-, -, hconstraints⟩ := h
  obtain ⟨hA, -, hB, -⟩ := audioConstraints_hold_iff.1 hconstraints
  cases k <;> simp only [AudioRecord.start] <;> omega

theorem PlayoutsLaw.playout (h : PlayoutsLaw s.sound) (k : Sink) : PlayoutLaw (s.sound.audio.start k) (s.playout k) := by
  obtain ⟨hA, hB, -⟩ := h
  cases k <;> assumption

theorem PlayoutsLaw.setPlayout (h : PlayoutsLaw s.sound) {k : Sink} {q : Playout} (hq : PlayoutLaw (s.sound.audio.start k) q) :
    PlayoutsLaw (s.setPlayout k q).sound := by
  obtain ⟨hA, hB, hconstraints⟩ := h
  cases k
  · exact ⟨hq, hB, hconstraints⟩
  · exact ⟨hA, hq, hconstraints⟩

/-! What the Sound Unit's work makes of the queues. -/

theorem SilenceLaw.takeSound (h : SilenceLaw s) (k : Sink) (pairs : List SoundPair) : SilenceLaw (s.takeSound k pairs).2 := by
  unfold State.takeSound
  split
  · exact h
  next hfree =>
    have hlaw := h.playouts.setPlayout ((h.playouts.playout k).appendAll (h.playouts.start_pos k) pairs)
    have hset : SilenceLaw (s.setPlayout k (Playout.appendAll (s.sound.audio.start k) pairs (s.playout k)).2) :=
      silenceLaw_iff.2 ⟨fun hb =>
        absurd ((s.setPlayout_changes k _).barred (by decide) (.of_changes (s.setPlayout_changes k _)) hb) hfree, hlaw⟩
    exact hset.of_changes (State.raiseIf_changes _ _ _) (by decide) (.of_changes (State.raiseIf_changes _ _ _))

theorem SilenceLaw.outputTick (h : SilenceLaw s) : SilenceLaw s.outputTick := by
  have hst := s.outputTick_changes
  have hsound : s.outputTick.sound.queueA = s.sound.queueA.tick.1 ∧ s.outputTick.sound.queueB = s.sound.queueB.tick.1 ∧
      s.outputTick.sound.audio = s.sound.audio := by simp only [State.outputTick, State.raiseIf_sound, and_self]
  obtain ⟨hA, hB, haudio⟩ := hsound
  obtain ⟨hlawA, hlawB, hconstraints⟩ := h.playouts
  refine h.of_playouts (hst.barred (by decide) (.of_changes hst))
    (fun he => by rw [hA, he]; rfl) (fun he => by rw [hB, he]; rfl) ?_
  unfold PlayoutsLaw
  rw [hA, hB, haudio]
  exact ⟨hlawA.tick (h.playouts.start_pos .a), hlawB.tick (h.playouts.start_pos .b), hconstraints⟩

theorem SilenceLaw.slipCheck (h : SilenceLaw s) : SilenceLaw s.slipCheck := by
  have hst := s.slipCheck_changes
  obtain ⟨hlawA, hlawB, hconstraints⟩ := h.playouts
  obtain ⟨-, hA, -, hB⟩ := audioConstraints_hold_iff.1 hconstraints
  exact h.of_playouts (hst.barred (by decide) (.of_changes hst))
    (fun he => congrArg (Playout.slip _ _) he) (fun he => congrArg (Playout.slip _ _) he)
    ⟨hlawA.slip (by omega), hlawB.slip (by omega), hconstraints⟩

/-- A WRITE to AUDIO whose thresholds keep their constraints judges both queues against them (R81). -/
theorem SilenceLaw.writeAudio (h : SilenceLaw s) {a : AudioRecord} (ha : (audioConstraints a).all (·.1) = true) :
    SilenceLaw (s.writeAudio a) := by
  have hst : ChangesOnly [.audio, .queueA, .queueB] s ({ s with sound := { s.sound with audio := a } } : State).startPrimed :=
    (s.audio_changes a).step (State.startPrimed_changes _) (by decide) (by decide)
  obtain ⟨hlawA, hlawB, -⟩ := h.playouts
  obtain ⟨hA, -, hB, -⟩ := audioConstraints_hold_iff.1 ha
  have hset : SilenceLaw ({ s with sound := { s.sound with audio := a } } : State).startPrimed :=
    h.of_playouts (hst.barred (by decide) (.of_changes hst))
      (fun he => congrArg (Playout.startIfPrimed _) he) (fun he => congrArg (Playout.startIfPrimed _) he)
      ⟨hlawA.wellFormed.startIfPrimed (Nat.zero_lt_of_lt hA), hlawB.wellFormed.startIfPrimed (Nat.zero_lt_of_lt hB), ha⟩
  exact hset.of_changes (State.stopCaptureIfEnded_changes _ _) (by decide) (.of_changes (State.stopCaptureIfEnded_changes _ _))

end
end Sys2Proof.Machine
end

section
namespace Sys2Proof.Machine

/-! ### The Frame Store's work on a frame not yet shown leaves the SHOWING slot (R45 to R52, R59, R60) -/

section
variable {s t u : State}

theorem KeepsShowing.refl (s : State) : KeepsShowing s s := fun _ h => h

theorem KeepsShowing.of_slots (h : t.frames.slots = s.frames.slots) : KeepsShowing s t := fun i hi => by rw [h, hi]

theorem KeepsShowing.trans (h : KeepsShowing s t) (k : KeepsShowing t u) : KeepsShowing s u := fun i hi => k i (h i hi)

/-- Another slot than the SHOWING one takes a record. -/
theorem KeepsShowing.setSlot (h : KeepsShowing s t) {i : Fin 3} (hi : s.frames.slots[i].phase ≠ .showing) (f : FrameSlot) :
    KeepsShowing s (t.setSlot i f) := by
  intro j hj
  have hne : j ≠ i := by
    rintro rfl
    exact hi hj
  rw [State.setSlot_slot_of_ne hne]
  exact h j hj

theorem KeepsShowing.of_slotIn {ph : SlotPhase} {i : Fin 3} (hi : s.slotIn ph = some i) (hph : ph ≠ .showing) (f : FrameSlot) :
    KeepsShowing s (s.setSlot i f) :=
  (KeepsShowing.refl s).setSlot (State.phase_of_slotIn hi ▸ hph) f

theorem KeepsShowing.supersedeIn {ph : SlotPhase} (hph : ph ≠ .showing) : KeepsShowing s (s.supersedeIn ph) := by
  unfold State.supersedeIn
  split
  next i hi => exact .of_slotIn hi hph _
  next => exact .refl s

theorem State.phase_of_freeSlot {k : Fin 3} (h : s.freeSlot = some k) : s.frames.slots[k].phase = .empty := by
  have hfree : s.slotFree k = true := List.find?_some (p := fun i => s.slotFree i) h
  exact (by simpa [State.slotFree] using hfree : _ ∧ _).1

theorem KeepsShowing.openFrame (f : BitVec 16) (noShift : Bool) (time : Time) : KeepsShowing s (s.openFrame f noShift time).2 := by
  cases hfilling : s.slotIn .filling with
  | some k =>
    rw [State.openFrame_of_filling f noShift time hfilling]
    exact .of_slotIn (s := s.raise _) hfilling (by decide) _
  | none =>
    cases hfree : s.freeSlot with
    | some k =>
      have hempty := State.phase_of_freeSlot hfree
      rw [State.openFrame_of_free f noShift time hfilling hfree]
      exact (KeepsShowing.refl s).setSlot (by rw [hempty]; decide) _
    | none =>
      rw [State.openFrame_of_full f noShift time hfilling hfree]
      exact .of_slots rfl

theorem KeepsShowing.completeSlot {i : Fin 3} (h : KeepsShowing s t) (hi : s.frames.slots[i].phase ≠ .showing) :
    KeepsShowing s (t.completeSlot i) := by
  by_cases hcomplete : BandsComplete t.frames.slots[i] t
  · rw [State.completeSlot_of_complete hcomplete]
    exact (h.trans (.supersedeIn (by decide))).setSlot hi _
  · rw [State.completeSlot_of_incomplete hcomplete]
    exact h.setSlot hi _

theorem KeepsShowing.closing {k : Fin 3} (hk : s.frames.slots[k].phase ≠ .showing) : KeepsShowing s (s.closing k) :=
  (KeepsShowing.supersedeIn (by decide)).setSlot hk _

theorem KeepsShowing.closeFrame (f : BitVec 16) : KeepsShowing s (s.closeFrame f).2 := by
  by_cases hcloses : ∃ k, s.slotIn .filling = some k ∧ s.frames.slots[k].frame = some f
  · obtain ⟨k, hk, hframe⟩ := hcloses
    have hfilling : s.frames.slots[k].phase ≠ .showing := by
      rw [State.phase_of_slotIn hk]
      decide
    rw [State.closeFrame_of_filling hk hframe]
    dsimp only
    split
    · exact (KeepsShowing.closing hfilling).completeSlot hfilling
    · exact .closing hfilling
  · rw [State.closeFrame_of_stray fun k hk hframe => hcloses ⟨k, hk, hframe⟩]
    exact .refl s

/-- A write that lands joins a frame without moving it on. -/
theorem KeepsShowing.landed (i : Fin 3) (w : BandWrite) (rest : List BandWrite) : KeepsShowing s (s.landed i w rest) := by
  intro j hj
  by_cases hji : j = i
  · subst hji
    rw [State.landed, State.setSlot_slot_self, FrameSlot.joined_phase, hj]
  · rw [State.landed, State.setSlot_slot_of_ne hji]
    exact hj

theorem KeepsShowing.completeWrite (i : Fin 3) : KeepsShowing s (s.completeWrite i) := by
  cases htake : takeWrite i s.frames.writes with
  | none =>
    rw [State.completeWrite_of_none htake]
    exact .refl s
  | some taken =>
    obtain ⟨w, rest⟩ := taken
    rw [State.completeWrite_of_some htake]
    split
    next hcloses => exact (KeepsShowing.landed i w rest).completeSlot (by rw [hcloses.1]; decide)
    next => exact .landed i w rest

theorem KeepsShowing.abandonFilling : KeepsShowing s s.abandonFilling := by
  unfold State.abandonFilling
  split
  next i hi => exact .of_slotIn hi (by decide) _
  next => exact .refl s

end
end Sys2Proof.Machine
end

section
namespace Sys2Proof.Machine

/-! ### The panels and the playout queues together, and what the link and the resets make of them (R72, R93, R117 to R120, R128 to R132) -/

/-- What the panels may show, and the silence of the queues. -/
structure OutputsLaw (s : State) : Prop where
  shown : ScanoutLaw s
  heard : SilenceLaw s

/-- The parts that the law speaks of, beside those that turn a panel black. -/
def outputParts : List Part := panelParts ++ playoutParts

/-- The parts that may turn a panel black or bar sound. -/
def litParts : List Part := [.slots, .link, .clock]

section
variable {s t u : State} {P : List Part}

theorem OutputsLaw.of_changes (h : OutputsLaw s) (hst : ChangesOnly P s t) (hP : ∀ p ∈ outputParts, p ∉ P) (hlit : StaysLit s t) :
    OutputsLaw t where
  shown := h.shown.of_changes hst (fun p hp => hP p (List.mem_append_left _ hp)) hlit
  heard := h.heard.of_changes hst (fun p hp => hP p (List.mem_append_right _ hp)) hlit.toStaysAudible

/-- A change of other blocks keeps the law. -/
theorem OutputsLaw.of_others (h : OutputsLaw s) (hst : ChangesOnly P s t) (hP : ∀ p ∈ outputParts ++ litParts, p ∉ P) : OutputsLaw t :=
  h.of_changes hst (fun p hp => hP p (List.mem_append_left _ hp))
    (.of_changes hst (.inl (hP _ (by decide))) (.inl (hP _ (by decide))) (.inl (hP _ (by decide))))

theorem OutputsLaw.elapse (h : OutputsLaw s) (d : Nat) : OutputsLaw (s.elapse d) :=
  h.of_changes (s.elapse_changes d) (by decide) (.of_changes (s.elapse_changes d) (clock := .inr rfl))

theorem OutputsLaw.runTo (h : OutputsLaw s) (d : Time) : OutputsLaw (s.runTo d) :=
  h.of_changes (s.runTo_changes d) (by decide) (.of_changes (s.runTo_changes d) (clock := .inr (s.runTo_clock_source d)))

theorem OutputsLaw.raise (h : OutputsLaw s) (k : EventKind) : OutputsLaw (s.raise k) := h.of_others (s.raise_changes k) (by decide)

theorem OutputsLaw.setLink (h : OutputsLaw s) {l : Link} (hup : s.link.state = .up → l.state = .up) : OutputsLaw (s.setLink l) :=
  h.of_changes (s.setLink_changes l) (by decide) (.of_changes (s.setLink_changes l) (link := .inr hup))

theorem OutputsLaw.setCounters (h : OutputsLaw s) (c : LinkCounters) : OutputsLaw (s.setLink { s.link with counters := c }) :=
  h.setLink id

/-- The panels go black and the queues are emptied, whatever has become of the link, the clock and the slots. -/
theorem OutputsLaw.blackAndSilent (h : OutputsLaw s) (hscanout : u.scanout = s.scanout) (hsound : u.sound = s.sound) :
    OutputsLaw u.blackOut.emptyIfBarred where
  shown := (h.shown.blackOut hscanout).of_changes (State.emptyIfBarred_changes _) (by decide) (.of_changes (State.emptyIfBarred_changes _))
  heard := PlayoutsLaw.emptyIfBarred (s := u.blackOut) (hsound ▸ h.heard.playouts)

/-! The Tether Receiver and the Clock Supervisor. -/

theorem State.goodHeader_up (hup : s.link.state = .up) : s.goodHeader.link.state = .up := by
  simp only [State.goodHeader, hup, State.setLink_link]

theorem OutputsLaw.goodHeader (h : OutputsLaw s) : OutputsLaw s.goodHeader :=
  h.of_changes s.goodHeader_changes (by decide) (.of_changes s.goodHeader_changes (link := .inr State.goodHeader_up))

theorem OutputsLaw.abandonFilling (h : OutputsLaw s) : OutputsLaw s.abandonFilling :=
  h.of_changes s.abandonFilling_changes (by decide) (.of_changes s.abandonFilling_changes (slots := .inr .abandonFilling))

theorem OutputsLaw.enterLost (h : OutputsLaw s) : OutputsLaw s.enterLost :=
  OutputsLaw.abandonFilling (h.blackAndSilent rfl rfl)

theorem OutputsLaw.badHeader (h : OutputsLaw s) : OutputsLaw s.badHeader := by
  unfold State.badHeader
  split
  · exact h
  · exact h.setLink id
  · exact h.setLink id
  · split
    · exact h.enterLost
    · exact h.setLink id

theorem OutputsLaw.discardCell (h : OutputsLaw s) (d : Discard) : OutputsLaw (s.discardCell d) := by
  unfold State.discardCell
  dsimp only
  split
  · exact (h.badHeader.setCounters _).raise _
  · exact (h.goodHeader.setCounters _).raise _

theorem OutputsLaw.discardFramed (h : OutputsLaw s) (framed : List Byte) : OutputsLaw (s.discardFramed framed) := by
  unfold State.discardFramed
  split
  · split
    · exact h.discardCell _
    · exact h
  · exact h

theorem OutputsLaw.clockStops (h : OutputsLaw s) (cut : List Byte) : OutputsLaw (s.clockStops cut) := by
  unfold State.clockStops
  split
  · refine OutputsLaw.setLink ?_ id
    split
    · exact h
    · exact h.discardFramed cut
  · exact h

theorem OutputsLaw.clockReturns (h : OutputsLaw s) : OutputsLaw s.clockReturns := by
  unfold State.clockReturns
  split
  · exact h
  · refine h.setLink fun hup => ?_
    simp [hup]

theorem OutputsLaw.clockLossExpires (h : OutputsLaw s) : OutputsLaw s.clockLossExpires := by
  unfold State.clockLossExpires
  split
  · exact h
  next n _ =>
    have hstopped : OutputsLaw ((s.elapse (clockLossTime - n)).setLink { (s.elapse (clockLossTime - n)).link with clockLoss := none }) :=
      (h.elapse _).setLink id
    dsimp only
    split
    · exact hstopped
    next htraining => exact hstopped.setLink fun hup => absurd (htraining.symm.trans hup) (by decide)
    · exact hstopped.enterLost
    · exact hstopped.setLink id

theorem OutputsLaw.setClock (h : OutputsLaw s) {c : Clock} (hsource : c.source = s.clock.source) : OutputsLaw { s with clock := c } := by
  have hst : ChangesOnly [.clock] s { s with clock := c } := by
    intro p hp
    cases p <;> simp_all [Part.same]
  exact h.of_changes hst (by decide) (.of_changes hst (clock := .inr hsource))

theorem OutputsLaw.crystalStops (h : OutputsLaw s) : OutputsLaw s.crystalStops := by
  unfold State.crystalStops
  split
  · exact h.setClock rfl
  · exact h

theorem OutputsLaw.crystalLossExpires (h : OutputsLaw s) : OutputsLaw s.crystalLossExpires := by
  unfold State.crystalLossExpires
  split
  · exact h
  · exact h.blackAndSilent rfl rfl

/-! The resets. -/

/-- The panels and the queues at their power-on values (R67, R98). -/
theorem outputsLaw_of_default (hscanout : t.scanout = Scanout.default) (hA : t.sound.queueA = Playout.emptied)
    (hB : t.sound.queueB = Playout.emptied) (haudio : t.sound.audio = AudioRecord.default) : OutputsLaw t where
  shown := by
    have hpanel : ∀ e, t.panel e = Panel.default := fun e => by cases e <;> rw [State.panel, hscanout] <;> rfl
    refine .of_anywhere (fun e u => ?_) ?_
    · rw [hpanel]
      exact Panel.IsDark.law (p := Panel.default) ⟨rfl, rfl, rfl, rfl⟩ u
    · rw [hscanout]
      simp only [hpanel]
      exact iff_of_false nofun fun ⟨_, hon⟩ => nomatch hon
  heard := by
    refine silenceLaw_iff.2 ⟨fun _ => ⟨hA, hB⟩, ?_⟩
    unfold PlayoutsLaw
    rw [hA, hB, haudio]
    exact ⟨playoutLaw_emptied _, playoutLaw_emptied _, by decide⟩

theorem outputsLaw_powerOnReset (s : State) : OutputsLaw s.powerOnReset := outputsLaw_of_default rfl rfl rfl rfl

theorem outputsLaw_tetherReset (s : State) : OutputsLaw s.tetherReset := by
  apply outputsLaw_of_default <;> simp only [State.tetherReset, State.raiseIf_scanout, State.raiseIf_sound] <;> rfl

/-! The hold expiry finds the link LOST, so that no panel shows a frame. -/

theorem State.holdExpires_scanout (s : State) :
    s.holdExpires.scanout = { s.scanout with left := s.scanout.left.fed, right := s.scanout.right.fed } := by
  have hstopped : ∀ u : State, (u.stopGroup .fast).scanout = u.scanout := fun u => (u.stopGroup_changes .fast).scanout_eq (by decide)
  simp only [State.holdExpires, State.linkLossReset, State.setLink_scanout, State.raise_scanout, hstopped]

theorem OutputsLaw.holdExpires (h : OutputsLaw s) (hlost : s.link.state = .lost) : OutputsLaw s.holdExpires where
  shown := by
    have hpanel : ∀ e, s.holdExpires.panel e = (s.panel e).fed := fun e => by
      cases e <;> simp only [State.panel, State.holdExpires_scanout]
    refine .of_anywhere (fun e u => ?_) ?_
    · have hlaw := h.shown.panel e
      have ⟨_, _, _, _, _, _, _, hblack⟩ := hlaw
      rw [hpanel]
      exact hlaw.anywhere (hblack (.inl (by rw [hlost]; decide))) u
    · simp only [hpanel]
      rw [State.holdExpires_scanout]
      exact h.shown.latch
  heard := by
    obtain ⟨-, -, hconstraints⟩ := h.heard.playouts
    have haudio : s.holdExpires.sound.audio = s.sound.audio := State.stopGroup_changes .fast (s.setLink _) .audio (by decide)
    exact silenceLaw_iff.2 ⟨fun _ => ⟨rfl, rfl⟩, playoutLaw_emptied _, playoutLaw_emptied _, haudio ▸ hconstraints⟩

end
end Sys2Proof.Machine
end

section
namespace Sys2Proof.Machine

/-! ### The Power Unit's changes keep what is shown and heard (R73, R92, R101, R105 to R111) -/

section
variable {s t u : State} {P : List Part}

/-- Another state of the Power Unit in which the cap and the permission of sound stand. -/
theorem OutputsLaw.withPower (h : OutputsLaw s) {p : Power} (hcap : p.cap = s.power.cap)
    (hsound : p.stances[p.inEffect.index].sound = s.power.stances[s.power.inEffect.index].sound) : OutputsLaw (s.withPower p) where
  shown := by
    refine scanoutLaw_iff.2 ⟨fun e => ?_, h.shown.latch⟩
    have ⟨_, _, _, _, hshown, _⟩ := h.shown.panel e
    exact (h.shown.panel e).of_state (t := s.withPower p) (hshown.trans hcap.ge) (fun _ hi => hi) id
  heard := h.heard.of_playouts (StaysAudible.barred (t := s.withPower p) ⟨id, id⟩ hsound.trans) id id h.heard.playouts

/-- The push leaves both panels and both queues as the new state of the Power Unit asks, whatever it is (R111). -/
theorem OutputsLaw.pushedBlocks (h : OutputsLaw s) (p : Power) : OutputsLaw (s.pushedBlocks p) where
  shown := (h.shown.push p).of_changes (State.emptyIfBarred_changes _) (by decide) (.of_changes (State.emptyIfBarred_changes _))
  heard := PlayoutsLaw.emptyIfBarred (s := (s.withPower p).followDemand.limitBrightness) h.heard.playouts

theorem OutputsLaw.changePower (h : OutputsLaw s) (p : Power) : OutputsLaw (s.changePower p) := by
  have hstopped := (h.pushedBlocks p).of_others (State.stopCaptureIfEnded_changes s.captureActive _) (by decide)
  rw [State.changePower_eq]
  split
  · exact hstopped.of_others (State.forceStopFast_changes _) (by decide)
  · exact hstopped

theorem OutputsLaw.settles (h : OutputsLaw s) (k : EventKind) : OutputsLaw (s.raise k).settleAnswer :=
  (h.raise k).of_others (State.settleAnswer_changes _) (by decide)

theorem OutputsLaw.evaluate (h : OutputsLaw s) : OutputsLaw s.evaluate := by
  unfold State.evaluate
  dsimp only
  split
  · exact (h.changePower _).settles _
  · split
    · split
      · exact (h.changePower _).settles _
      · exact h.changePower _
    · exact h

theorem OutputsLaw.rampStep (h : OutputsLaw s) (r : Ramp) : OutputsLaw (s.rampStep r) := by
  unfold State.rampStep
  dsimp only
  split
  · exact (h.changePower _).settles _
  · exact h.changePower _

/-- The check is the due time set, the marks judged, and what the target then asks (R104 to R109). -/
theorem State.stanceCheck_eq (s : State) : s.stanceCheck =
    let u := (s.withPower { s.power with checkDue := s.clock.now + 10000 }).setMarks
    if u.target = u.power.inEffect then (match u.power.ramp with | some r => u.rampStep r | none => u) else u.evaluate := rfl

theorem OutputsLaw.stanceCheck (h : OutputsLaw s) : OutputsLaw s.stanceCheck := by
  have hdue : OutputsLaw (s.withPower { s.power with checkDue := s.clock.now + 10000 }) := h.withPower rfl rfl
  have hmarked := hdue.of_others (State.setMarks_changes _) (by decide)
  rw [State.stanceCheck_eq]
  dsimp only
  split
  · split
    · exact hmarked.rampStep _
    · exact hmarked
  · exact hmarked.evaluate

/-- Another stance's record is written without a push; the record in effect is pushed (R101). -/
theorem OutputsLaw.writeStance (h : OutputsLaw s) (i : Fin 4) (x : StanceRecord) : OutputsLaw (s.writeStance i x) := by
  unfold State.writeStance
  dsimp only
  split
  · exact h.changePower _
  next hother =>
    refine h.withPower rfl ?_
    have hne : i.val ≠ s.power.inEffect.index.val := fun e => hother (Fin.ext e)
    simp [Vector.getElem_set_ne, hne]

theorem OutputsLaw.writeRule (h : OutputsLaw s) (i : Fin 8) (x : Rule) : OutputsLaw (s.writeRule i x) :=
  OutputsLaw.evaluate (h.withPower rfl rfl)

/-! ### WRITE to PANELS (R58, R63, R73) -/

theorem maskedField_of_unmasked {α : Type} {mask : BitVec 32} {k : Nat} (h : mask.getLsbD k = false) (image : List Byte)
    (decode : Slot → Option α) (old : α) : maskedField mask image k decode old = .ok old := if_neg (by rw [h]; decide)

theorem getLsbD_of_namesStructural {mask : BitVec 32} (h : namesStructural mask = false) {k : Nat} (hk : k < 4) :
    mask.getLsbD k = false := by
  have hnone : lowestField mask (fun k => decide (k < 4)) = none := by simpa [namesStructural] using h
  simpa [hk] using List.find?_eq_none.1 hnone k (List.mem_range.2 (by omega))

/-- A written panel keeps its power and what is shown; its margins are structural fields (R63). -/
theorem Panel.written_showsAs {mask : BitVec 32} {image : List Byte} {p q : Panel} (h : p.written mask image = .ok q) :
    q.ShowsAs { p with marginH := q.marginH, marginV := q.marginV } ∧
      (namesStructural mask = false → q.marginH = p.marginH ∧ q.marginV = p.marginV) := by
  unfold Panel.written at h
  constructor
  · simp only [bind, Except.bind, pure, Except.pure] at h
    repeat' split at h
    all_goals cases h
    exact ⟨rfl, rfl, rfl, rfl, rfl, rfl, rfl⟩
  · intro hlevel
    rw [maskedField_of_unmasked (k := 2) (getLsbD_of_namesStructural hlevel (by decide)),
      maskedField_of_unmasked (k := 3) (getLsbD_of_namesStructural hlevel (by decide))] at h
    simp only [bind, Except.bind, pure, Except.pure] at h
    repeat' split at h
    all_goals cases h
    exact ⟨rfl, rfl⟩

end
end Sys2Proof.Machine
end

section
namespace Sys2Proof.Machine

/-! ### The services keep what is shown and heard (R58 to R60, R63, R65, R73, R81, R101, R153) -/

section
variable {s t : State} {e : Eye} {p : Panel}

theorem State.panelSet_panel (e : Eye) (p : Panel) (d : Eye) (s : State) :
    (s.panelSet e p).panel d = ((s.setPanel e p).panel d).limit s.power.cap := by
  rw [State.panelSet, State.limitBrightness_panel, State.setPanel_power]

/-- A panel of a level write is limited, and the other with it (R73). -/
theorem ScanoutLaw.panelSet (h : ScanoutLaw s) (hp : p.ShowsAs (s.panel e)) : ScanoutLaw (s.panelSet e p) := by
  have hshows : ∀ d, ((s.setPanel e p).panel d).ShowsAs (s.panel d) := fun d => by
    by_cases hde : d = e
    · subst hde
      rwa [State.panel_setPanel]
    · rw [State.panel_setPanel_of_ne hde]
      exact .refl _
  have hst := s.panelSet_changes e p
  obtain ⟨hcap, -⟩ : (s.panelSet e p).power.cap = s.power.cap ∧ _ := hst .limits (by decide)
  have hdue : (s.panelSet e p).scanout.latchDue = s.scanout.latchDue := hst .latchDue (by decide)
  have hpower : ∀ d, ((s.panelSet e p).panel d).power = (s.panel d).power := fun d => by
    rw [State.panelSet_panel]
    exact (hshows d).power
  refine scanoutLaw_iff.2 ⟨fun d => ?_, by simp only [hdue, hpower, h.latch]⟩
  rw [State.panelSet_panel]
  have hlit : StaysLit s (s.panelSet e p) := .of_changes hst
  exact ((h.panel d).limit (hshows d) _).of_state (hcap ▸ Panel.limit_shown_le ..) hlit.showing hlit.black

/-- A structural write finds both panels OFF, so that none shows a frame of the slots that it empties (R58, R63). -/
theorem ScanoutLaw.writePanel_of_off (h : ScanoutLaw s) (hoff : ∀ d, (s.panel d).power = .off) (hpower : p.power = (s.panel e).power)
    (hdark : p.IsDark) : ScanoutLaw (s.writePanel e true p) := by
  have hpanel : ∀ d, ((s.setPanel e p).panel d).IsDark ∧ ((s.setPanel e p).panel d).power = .off := fun d => by
    by_cases hde : d = e
    · subst hde
      rw [State.panel_setPanel]
      exact ⟨hdark, hpower.trans (hoff d)⟩
    · rw [State.panel_setPanel_of_ne hde]
      exact ⟨(h.panel d).isDark (by rw [hoff]; decide), hoff d⟩
  have hdue : (s.writePanel e true p).scanout.latchDue = s.scanout.latchDue := State.writePanel_changes true .latchDue (by decide)
  refine .of_anywhere (fun d u => ?_) (hdue ▸ iff_of_false (fun hdue => ?_) fun ⟨d, hd⟩ => ?_)
  · rw [State.writePanel_panel, State.panelSet_panel]
    exact ((hpanel d).1.limit _).law u
  · obtain ⟨d, hd⟩ := h.latch.1 hdue
    rw [hoff d] at hd
    cases hd
  · rw [State.writePanel_panel, State.panelSet_panel] at hd
    exact absurd ((hpanel d).2.symm.trans hd) (by decide)

theorem State.bothOff_panel (h : s.bothOff = true) (d : Eye) : (s.panel d).power = .off := by
  obtain ⟨hleft, hright⟩ := State.bothOff_iff.1 h
  cases d <;> assumption

theorem OutputsLaw.writePanel (h : OutputsLaw s) {mask : BitVec 32} {image : List Byte} (hp : (s.panel e).written mask image = .ok p)
    (hoff : ¬ (namesStructural mask = true ∧ ¬ s.bothOff = true)) : OutputsLaw (s.writePanel e (namesStructural mask) p) where
  shown := by
    obtain ⟨hshows, hmargins⟩ := Panel.written_showsAs hp
    cases hstructural : namesStructural mask with
    | true =>
      have hboth := State.bothOff_panel (not_not.1 fun hon => hoff ⟨hstructural, hon⟩)
      obtain ⟨hdx, hdy, hshown, hwindow⟩ := (h.shown.panel e).isDark (by rw [hboth]; decide)
      exact h.shown.writePanel_of_off hboth hshows.power
        ⟨hshows.dx.trans hdx, hshows.dy.trans hdy, hshows.shown.trans hshown, hshows.window.trans hwindow⟩
    | false =>
      obtain ⟨hH, hV⟩ := hmargins hstructural
      exact h.shown.panelSet ⟨hshows.power, hH, hV, hshows.dx, hshows.dy, hshows.shown, hshows.window⟩
  heard := h.heard.of_changes (State.writePanel_changes _) (by decide) (.of_changes (State.writePanel_changes (e := e) (p := p) _))

theorem OutputsLaw.writePanelsAct (h : OutputsLaw s) (r : Request) : (writePanelsAct r s).Keeps OutputsLaw := by
  refine .writeAct fun i m b _ => .ranged fun p hp => ?_
  split
  · trivial
  next hoff => exact .doneWrite (h.writePanel hp hoff)

theorem OutputsLaw.writeStream (h : OutputsLaw s) (i : Fin 32) (x : StreamEntry) : OutputsLaw (s.writeStream i x) := by
  have hst : ChangesOnly [.streams] s { s with streams := s.streams.set i.val x } := by
    intro p hp
    cases p <;> simp_all [Part.same]
  have hset := h.of_others hst (by decide)
  unfold State.writeStream
  dsimp only
  split
  · exact hset.abandonFilling
  · exact hset

theorem OutputsLaw.writeStreamsAct (h : OutputsLaw s) (r : Request) : (writeStreamsAct r s).Keeps OutputsLaw := by
  refine .writeAct fun i m b _ => ?_
  split
  · exact .ranged fun x _ => .unlessConflict (.doneWrite (h.writeStream _ x)) _ _
  · trivial

/-! WRITE to SCANOUT: the record's fields are set, and both panels follow the demand. -/

theorem Scanout.written_keeps {mask : BitVec 32} {image : List Byte} {x y : Scanout} (h : x.written mask image = .ok y) :
    ∃ enable refresh, y = { x with enable := enable, refresh := refresh } := by
  unfold Scanout.written at h
  simp only [bind, Except.bind, pure, Except.pure] at h
  repeat' split at h
  all_goals cases h
  exact ⟨_, _, rfl⟩

theorem OutputsLaw.demandSet (h : OutputsLaw s) (enable : Bool) (refresh : RefreshCode) :
    OutputsLaw (s.demandSet { s.scanout with enable := enable, refresh := refresh }) := by
  have hset := h.of_others (s.scanoutRecord_changes enable refresh) (by decide)
  have hfollow := State.followDemand_changes { s with scanout := { s.scanout with enable := enable, refresh := refresh } }
  exact ⟨hset.shown.followDemand, hset.heard.of_changes hfollow (by decide) (.of_changes hfollow)⟩

theorem OutputsLaw.writeScanoutAct (h : OutputsLaw s) (r : Request) : (writeScanoutAct r s).Keeps OutputsLaw := by
  refine .writeAct fun i m b _ => .ranged fun x hx => ?_
  obtain ⟨enable, refresh, rfl⟩ := Scanout.written_keeps hx
  split
  · trivial
  · exact .doneWrite (h.demandSet enable refresh)

/-! WRITE to AUDIO. -/

/-- A record that comes to its effect keeps its constraints (R149). -/
theorem Verdict.Keeps.unlessConflict_of_hold {Q : State → Prop} {v : Verdict} {constraints : List (Bool × List Nat)}
    (h : constraints.all (·.1) = true → v.Keeps Q) (mask : BitVec 32) : (Machine.unlessConflict mask constraints v).Keeps Q := by
  unfold Machine.unlessConflict
  dsimp only
  split
  next hnone => exact h (by simpa [List.filter_eq_nil_iff] using hnone)
  next => trivial

theorem OutputsLaw.writeAudio (h : OutputsLaw s) {a : AudioRecord} (ha : (audioConstraints a).all (·.1) = true) :
    OutputsLaw (s.writeAudio a) where
  shown := h.shown.of_changes (s.writeAudio_changes a) (by decide) (.of_changes (s.writeAudio_changes a))
  heard := h.heard.writeAudio ha

theorem OutputsLaw.writeAudioAct (h : OutputsLaw s) (r : Request) : (writeAudioAct r s).Keeps OutputsLaw :=
  .writeAct fun _ _ _ _ => .ranged fun _ _ => .unlessConflict_of_hold (fun ha => .doneWrite (h.writeAudio ha)) _

/-! The services of the Power Unit. -/

theorem OutputsLaw.writeStancesAct (h : OutputsLaw s) (r : Request) : (writeStancesAct r s).Keeps OutputsLaw := by
  refine .writeAct fun i m b _ => ?_
  split
  · refine .ranged fun x _ => ?_
    split
    · trivial
    · exact .doneWrite (h.writeStance _ x)
  · trivial

theorem OutputsLaw.writeRulesAct (h : OutputsLaw s) (r : Request) : (writeRulesAct r s).Keeps OutputsLaw := by
  refine .writeAct fun i m b _ => ?_
  split
  · exact .ranged fun x _ => .doneWrite (h.writeRule _ x)
  · trivial

theorem OutputsLaw.stanceOrderAct (h : OutputsLaw s) (r : Request) : (stanceOrderAct r s).Keeps OutputsLaw := by
  refine .needing fun b => ?_
  split
  · trivial
  next x _ =>
    have hevaluated : OutputsLaw (s.withPower { s.power with ordered := x }).evaluate := OutputsLaw.evaluate (h.withPower rfl rfl)
    split
    · trivial
    · dsimp only
      split
      · exact hevaluated
      · exact hevaluated

theorem State.withMgmt_changes (m : Mgmt) (s : State) : ChangesOnly [.requests, .answers, .deferred] s (s.withMgmt m) := by
  intro p hp
  cases p <;> simp_all [Part.same, State.withMgmt]

theorem OutputsLaw.withMgmt (h : OutputsLaw s) (m : Mgmt) : OutputsLaw (s.withMgmt m) := h.of_others (s.withMgmt_changes m) (by decide)

/-- Every service keeps the law: seven rows reach the parts that it speaks of. -/
theorem OutputsLaw.service (h : OutputsLaw s) {c : Instr} {act : Request → State → Verdict} (hact : serviceAct c = some act) :
    OutputsLaw (s.serve c act) := by
  refine State.serve_keeps (fun u m hu => hu.withMgmt m) (fun r u hu => ?_) h
  have hchanges := serviceAct_changes hact r u
  have helsewhere : (∀ p ∈ outputParts ++ litParts, p ∉ serviceParts c) → (act r u).Keeps OutputsLaw := fun hP =>
    hchanges.mono fun _ ht => hu.of_others ht hP
  cases c <;> cases hact
  case writeStreams => exact hu.writeStreamsAct r
  case writePanels => exact hu.writePanelsAct r
  case writeScanout => exact hu.writeScanoutAct r
  case writeAudio => exact hu.writeAudioAct r
  case writeStances => exact hu.writeStancesAct r
  case writeRules => exact hu.writeRulesAct r
  case stanceOrder => exact hu.stanceOrderAct r
  all_goals exact helsewhere (by decide)

theorem OutputsLaw.caughtUp (h : OutputsLaw s) : OutputsLaw s.caughtUp :=
  State.caughtUp_keeps (fun _ _ hact _ hs => hs.service hact) h

end
end Sys2Proof.Machine
end

section
namespace Sys2Proof.Machine

/-! ### The commands keep what is shown and heard -/

section
variable {s t : State}

/-- A timed event finds the state that its due time was read off, but for the time that has passed. -/
theorem OutputsLaw.timed (h : OutputsLaw s) {due : Option Time} {f : State → State}
    (hf : ∀ d, due = some d → OutputsLaw (s.runTo d) → OutputsLaw (f (s.runTo d))) : OutputsLaw (s.timed due f) := by
  unfold State.timed
  split
  next d =>
    split
    · exact hf d rfl (h.runTo d)
    · exact h
  next => exact h

/-- A timed event of another block. -/
theorem OutputsLaw.timed_of_others (h : OutputsLaw s) {due : Option Time} {P : List Part} {f : State → State}
    (hf : ∀ u, ChangesOnly P u (f u)) (hP : ∀ p ∈ outputParts ++ litParts, p ∉ P) : OutputsLaw (s.timed due f) :=
  h.timed fun _ _ hu => hu.of_others (hf _) hP

theorem OutputsLaw.whenReceiving (h : OutputsLaw s) {f : State → State} (hf : OutputsLaw (f s)) : OutputsLaw (s.whenReceiving f) := by
  unfold State.whenReceiving
  split
  · exact hf
  · exact h

/-- A cell that arrives keeps the law when its delivery does. -/
theorem OutputsLaw.arrive (h : OutputsLaw s) {i : Fin 32} {admits : StreamEntry → Bool} {deliver : StreamEntry → State → Bool × State}
    (hd : ∀ e u, OutputsLaw u → OutputsLaw (deliver e u).2) : OutputsLaw (s.arrive i admits deliver) := by
  have hhanded : OutputsLaw s.goodHeader.handOn := h.goodHeader.of_others (State.handOn_changes _) (by decide)
  unfold State.arrive
  dsimp only
  split
  · exact (hd _ _ hhanded).of_others (State.countCell_changes _ _ _) (by decide)
  · exact hhanded.of_others (State.countCell_changes _ _ _) (by decide)

/-- A cell that its length or its operands turn away as a runt, and is else taken. -/
theorem OutputsLaw.cell (h : OutputsLaw s) {fits : State → Bool} {f : State → State} (hf : OutputsLaw (f s)) :
    OutputsLaw (s.whenReceiving fun s => if fits s then f s else s.discardCell .runt) := by
  refine h.whenReceiving ?_
  split
  · exact hf
  · exact h.discardCell _

theorem OutputsLaw.reset (h : OutputsLaw s) (i : Fin 32) : OutputsLaw (State.whenReceiving (fun s =>
    let s := s.arrive i (fun _ => i == 0) fun _ s => (true, s)
    if i = 0 then s.tetherReset else s) s) := by
  refine h.whenReceiving ?_
  dsimp only
  split
  · exact outputsLaw_tetherReset _
  · exact h.arrive fun _ _ hu => hu

/-! The Frame Store's work keeps the SHOWING slot, and the Sound Unit's the panels. -/

theorem OutputsLaw.openFrame (h : OutputsLaw s) (f : BitVec 16) (noShift : Bool) (time : Time) :
    OutputsLaw (s.openFrame f noShift time).2 :=
  have hst := s.openFrame_changes f noShift time
  h.of_changes hst (by decide) (.of_changes hst (.inr (.openFrame f noShift time)))

theorem OutputsLaw.closeFrame (h : OutputsLaw s) (f : BitVec 16) : OutputsLaw (s.closeFrame f).2 :=
  h.of_changes (s.closeFrame_changes f) (by decide) (.of_changes (s.closeFrame_changes f) (.inr (.closeFrame f)))

theorem OutputsLaw.completeWrite (h : OutputsLaw s) (i : Fin 3) : OutputsLaw (s.completeWrite i) :=
  h.of_changes (s.completeWrite_changes i) (by decide) (.of_changes (s.completeWrite_changes i) (.inr (.completeWrite i)))

theorem OutputsLaw.takeSound (h : OutputsLaw s) (k : Sink) (pairs : List SoundPair) : OutputsLaw (s.takeSound k pairs).2 where
  shown := h.shown.of_changes (s.takeSound_changes k pairs) (by decide) (.of_changes (s.takeSound_changes k pairs))
  heard := h.heard.takeSound k pairs

theorem OutputsLaw.outputTick (h : OutputsLaw s) : OutputsLaw s.outputTick where
  shown := h.shown.of_changes s.outputTick_changes (by decide) (.of_changes s.outputTick_changes)
  heard := h.heard.outputTick

theorem OutputsLaw.slipCheck (h : OutputsLaw s) : OutputsLaw s.slipCheck where
  shown := h.shown.of_changes s.slipCheck_changes (by decide) (.of_changes s.slipCheck_changes)
  heard := h.heard.slipCheck

/-! The Scanout Unit's own timed events: the latch timer runs while a panel is ON, and a power-down sequence ends for one that is not. -/

theorem OutputsLaw.frameLatch (h : OutputsLaw s) (hdue : s.scanout.latchDue.isSome) : OutputsLaw s.frameLatch where
  shown := State.frameLatch_law (h.shown.latch.1 hdue)
  heard := h.heard.of_changes s.frameLatch_changes (by decide) (.of_changes s.frameLatch_changes)

theorem OutputsLaw.panelOn (h : OutputsLaw s) (e : Eye) : OutputsLaw (s.panelOn e) where
  shown := h.shown.panelOn e
  heard := h.heard.of_changes (s.panelOn_changes e) (by decide) (.of_changes (s.panelOn_changes e))

theorem OutputsLaw.panelDown (h : OutputsLaw s) {e : Eye} (hoff : (s.panel e).power ≠ .on) : OutputsLaw (s.panelDown e) where
  shown := h.shown.panelDown hoff
  heard := h.heard.of_changes (s.panelDown_changes e) (by decide) (.of_changes (s.panelDown_changes e))

theorem State.lost_of_holdDue {d : Time} (h : s.holdDue = some d) : s.link.state = .lost := by
  unfold State.holdDue at h
  split at h
  · assumption
  · cases h

theorem State.stopping_of_powerDownDue {e : Eye} {d : Time} (h : s.powerDownDue e = some d) : (s.panel e).power = .stopping := by
  unfold State.powerDownDue at h
  split at h
  · assumption
  · cases h

/-- Every command keeps the law. -/
theorem OutputsLaw.exec (h : OutputsLaw s) {c : Instr} (ht : exec c s = .next t) : OutputsLaw t := by
  have hu := h.caughtUp
  have hturn : ∀ {f : State → State}, s.inTurn f = .next t → OutputsLaw (f s.caughtUp) → OutputsLaw t := fun ht hf =>
    Host.Outcome.next.inj ht ▸ hf
  cases hact : serviceAct c with
  | some act => exact Host.Outcome.next.inj ((exec_of_serviceAct hact s).symm.trans ht) ▸ h.service hact
  | none =>
    cases c
    all_goals simp only [serviceAct, reduceCtorEq] at hact
    case powerOnReset => exact Host.Outcome.next.inj ht ▸ outputsLaw_powerOnReset s
    case reset i => exact hturn ht (hu.reset i)
    case holdExpiry =>
      refine hturn ht (hu.timed fun d hdue hrun => hrun.holdExpires ?_)
      rw [State.runTo_link_state, State.lost_of_holdDue hdue]
    case clockAbsent cut => exact hturn ht (hu.clockStops cut)
    case clockReturn => exact hturn ht hu.clockReturns
    case clockLossExpiry => exact hturn ht hu.clockLossExpires
    case crystalAbsent => exact hturn ht hu.crystalStops
    case crystalReturn => exact hturn ht (hu.setClock rfl)
    case crystalLossExpiry => exact hturn ht hu.crystalLossExpires
    case cellDiscarded framed => exact hturn ht (hu.discardFramed framed)
    case fill => exact hturn ht (hu.whenReceiving hu.goodHeader)
    case picOpen => exact hturn ht (hu.whenReceiving (hu.arrive fun _ _ h => h.openFrame _ _ _))
    case picBand => exact hturn ht (hu.cell (hu.arrive fun _ u h => h.of_others (u.acceptBand_changes _ _ _ _) (by decide)))
    case picClose => exact hturn ht (hu.whenReceiving (hu.arrive fun _ _ h => h.closeFrame _))
    case bandWriteComplete i => exact hturn ht (hu.completeWrite i)
    case sound => exact hturn ht (hu.cell (hu.arrive fun _ _ h => h.takeSound _ _))
    case ask => exact hturn ht (hu.cell (hu.arrive fun _ u h => h.of_others (u.takeAsk_changes _) (by decide)))
    case scanTrigger g => exact hturn ht (hu.timed_of_others (fun u => u.timerTrigger_changes g) (by decide))
    case burstComplete raw => exact hturn ht (hu.timed_of_others (fun u => u.burstDone_changes raw) (by decide))
    case conversionComplete raw =>
      exact hturn ht (hu.timed_of_others (fun u => u.conversionDone_changes raw) (by decide))
    case ageExpiry => exact hturn ht (hu.timed_of_others (fun u => u.ageHead_changes) (by decide))
    case frameLatch =>
      refine hturn ht (hu.timed fun d hdue hrun => hrun.frameLatch ?_)
      rw [State.runTo_scanout, hdue]
      rfl
    case panelReady e => exact hturn ht (hu.timed fun _ _ hrun => hrun.panelOn e)
    case powerDownComplete e =>
      refine hturn ht (hu.timed fun d hdue hrun => hrun.panelDown ?_)
      rw [(State.runTo_changes d _).panel_eq (by decide) (by decide), State.stopping_of_powerDownDue hdue]
      decide
    case outputTick => exact hturn ht (hu.timed fun _ _ hrun => hrun.outputTick)
    case slipCheck =>
      refine hturn ht ?_
      show OutputsLaw (if s.caughtUp.sound.slipDue then s.caughtUp.slipCheck else s.caughtUp)
      split
      · exact hu.slipCheck
      · exact hu
    case microphoneSample raw =>
      exact hturn ht (hu.timed_of_others (fun u => u.microphone_changes raw) (by decide))
    case stanceCheck => exact hturn ht (hu.timed fun _ _ hrun => hrun.stanceCheck)
    case cellBoundary => exact hturn ht (hu.of_others (State.cellBoundary_changes _) (by decide))

theorem OutputsLaw.step (h : OutputsLaw s) (ht : step s = .next t) : OutputsLaw t := by
  unfold Machine.step at ht
  split at ht
  next c rest _ =>
    have hst : ChangesOnly [.pending] s { s with pending := rest } := by
      intro p hp
      cases p <;> simp_all [Part.same]
    exact (h.of_others hst (by decide)).exec ht
  next =>
    unfold State.ownStep at ht
    split at ht
    · exact h.exec ht
    · exact Host.Outcome.next.inj ht ▸ h.elapse 1

/-- The laws of the device say what is shown and heard. -/
theorem DeviceLaw.outputs (h : DeviceLaw s) : OutputsLaw s := by
  obtain ⟨-, -, -, -, -, -, hshown, hheard, -⟩ := h
  exact ⟨hshown, hheard⟩

end
end Sys2Proof.Machine

open Sys2Proof Sys2Proof.Machine

/-- Settles O9: a latch judges both panels anew, what ends a frame's showing blacks them at once and what bars sound empties the queues at
once; every other command leaves a SHOWING slot, the cap and the queues' laws. -/
theorem scanoutAndSilenceLawKept : Obligations.ScanoutAndSilenceLawKept := fun _ _ hs hstep =>
  have h := hs.outputs.step hstep
  ⟨h.shown, h.heard⟩
end

section
namespace Sys2Proof.Machine

/-! ### The coefficients of the gain codes (R89) -/

/-- `c` is the nearest integer to the coefficient of gain code `g`, said in whole numbers: with both sides of
`|c - 32768 × 10^(-g/40)| < 1/2` doubled and raised to the 40th power (R89). -/
def NearestCoefficient (g c : Nat) : Prop :=
  1 ≤ c ∧ (2 * c - 1) ^ 40 * 10 ^ g < 65536 ^ 40 ∧ 65536 ^ 40 < (2 * c + 1) ^ 40 * 10 ^ g

/-- The codes in twelve rows of sixteen, as the tables list them. -/
theorem forall_code_of_rows {P : Nat → Prop} (h : ∀ row < 12, ∀ k < 16, P (16 * row + k)) (g : Nat) (hg : g < 192) : P g :=
  Nat.div_add_mod g 16 ▸ h (g / 16) (by omega) (g % 16) (by omega)

theorem gainCoefficient_nearest : ∀ g < 192, NearestCoefficient g (gainCoefficient g) :=
  forall_code_of_rows (by unfold NearestCoefficient; decide)

theorem gainCoefficient_succ_le : ∀ g < 192, gainCoefficient (g + 1) ≤ gainCoefficient g := forall_code_of_rows (by decide)

theorem gainCoefficient_antitone {g h : Nat} (hgh : g ≤ h) (hh : h ≤ 192) : gainCoefficient h ≤ gainCoefficient g := by
  induction h, hgh using Nat.le_induction with
  | base => exact le_rfl
  | succ h _ ih => exact (gainCoefficient_succ_le h hh).trans (ih (Nat.le_of_succ_le hh))

/-- The doubled coefficient of code `g`, before it is rounded, is the 40th root of `65536^40 / 10^g`. -/
theorem exactCoefficient_pow (g : Nat) : (2 * (32768 * (10 : ℝ) ^ (-(g : ℝ) / 40))) ^ 40 * 10 ^ g = 65536 ^ 40 := by
  have hroot : ((10 : ℝ) ^ (-(g : ℝ) / 40)) ^ 40 * 10 ^ g = 1 := by
    rw [← Real.rpow_natCast, ← Real.rpow_natCast, ← Real.rpow_mul (by norm_num), ← Real.rpow_add (by norm_num)]
    norm_num
  calc _ = 65536 ^ 40 * (((10 : ℝ) ^ (-(g : ℝ) / 40)) ^ 40 * 10 ^ g) := by ring
    _ = 65536 ^ 40 := by rw [hroot, mul_one]

theorem NearestCoefficient.abs_sub_lt {g c : Nat} (h : NearestCoefficient g c) :
    |(c : ℝ) - 32768 * (10 : ℝ) ^ (-(g : ℝ) / 40)| < 1 / 2 := by
  obtain ⟨hpos, hbelow, habove⟩ := h
  have hexact := exactCoefficient_pow g
  set x : ℝ := 32768 * (10 : ℝ) ^ (-(g : ℝ) / 40)
  have hx : 0 ≤ 2 * x := by positivity
  have hpower : (0 : ℝ) < 10 ^ g := by positivity
  have hbelow' : (2 * (c : ℝ) - 1) ^ 40 * 10 ^ g < (2 * x) ^ 40 * 10 ^ g := by
    rw [hexact]
    have hcast : ((2 * c - 1 : Nat) : ℝ) = 2 * c - 1 := by rw [Nat.cast_sub (by omega)]; simp
    rw [← hcast]
    exact_mod_cast hbelow
  have habove' : (2 * x) ^ 40 * 10 ^ g < (2 * (c : ℝ) + 1) ^ 40 * 10 ^ g := by
    rw [hexact]
    exact_mod_cast habove
  have hlow := lt_of_pow_lt_pow_left₀ 40 hx (lt_of_mul_lt_mul_right hbelow' hpower.le)
  have hhigh := lt_of_pow_lt_pow_left₀ 40 (by positivity) (lt_of_mul_lt_mul_right habove' hpower.le)
  rw [abs_sub_lt_iff]
  constructor <;> linarith

end Sys2Proof.Machine

open Sys2Proof Sys2Proof.Machine

/-- Settles O13: code by code the table holds the nearest integer, and it falls from each code to the next. -/
theorem gainCoefficients : Obligations.GainCoefficients :=
  ⟨fun g hg => (gainCoefficient_nearest g (Nat.lt_succ_of_le hg)).abs_sub_lt, rfl, fun _ _ => gainCoefficient_antitone, rfl⟩
end

section
namespace Sys2Proof.Machine

/-! ### A slip check (R88) -/

section
variable {q : Playout} {low high : Nat}

theorem Playout.slip_of_over (hplays : q.phase = .playing) (hover : high < q.pairs.length) :
    q.slip low high = { q with pairs := q.pairs.drop 1 } := by
  simp [Playout.slip, hplays, hover]

theorem Playout.slip_of_under (hplays : q.phase = .playing) (hhigh : q.pairs.length ≤ high) (hheld : 0 < q.pairs.length)
    (hunder : q.pairs.length < low) : q.slip low high = { q with hold := true } := by
  rw [Playout.slip, if_neg (not_not.2 hplays), if_neg (not_lt.2 hhigh), if_pos ⟨hheld, hunder⟩]

theorem Playout.slip_of_within (h : q.phase ≠ .playing ∨ q.pairs.length = 0 ∨ (low ≤ q.pairs.length ∧ q.pairs.length ≤ high)) :
    q.slip low high = q := by
  rcases h with hphase | hempty | ⟨hlow, hhigh⟩
  · exact if_pos hphase
  · simp [Playout.slip, hempty]
  · simp [Playout.slip, not_lt.2 hlow, not_lt.2 hhigh]

end

theorem State.slipCheck_playout (k : Sink) (s : State) :
    s.slipCheck.playout k = (s.playout k).slip s.sound.audio.slipLow s.sound.audio.slipHigh := by
  cases k <;> rfl

end Sys2Proof.Machine

open Sys2Proof Sys2Proof.Machine

/-- Settles O29: a check that is owed trims each queue by its fill. -/
theorem slipCheckTrims : Obligations.SlipCheckTrims := by
  intro s hserved howed
  have hexec : exec .slipCheck s = .next s.slipCheck :=
    (State.inTurn_of_not_servable (fun s => if s.sound.slipDue then s.slipCheck else s) s (State.servable_of_served hserved)).trans
      (congrArg _ (if_pos howed))
  refine ⟨_, hexec, s.slipCheck_changes, rfl, rfl, rfl, fun k => ?_⟩
  rw [State.slipCheck_playout]
  exact ⟨Playout.slip_of_over, Playout.slip_of_under, Playout.slip_of_within⟩
end

section
namespace Sys2Proof.Machine

/-! ### An output tick (R85, R86, R90, R91) -/

theorem fadedPair_gives (q : Playout) {k : Nat} (hk : k ≤ 32) : FadeGives q k (fadedPair q.last k) := by
  unfold FadeGives
  cases q.last with
  | none => exact ⟨fun _ => rfl, nofun⟩
  | some p =>
    refine ⟨nofun, fun p' hp => ?_⟩
    obtain rfl := Option.some.inj hp
    rw [fadedPair, Nat.cast_sub hk]
    rfl

section
variable {q : Playout}

theorem Playout.tick_of_idle (h : q.phase = .idle) : q.tick = (q, SoundPair.silent, false) := by
  rw [Playout.tick, h]

theorem Playout.tick_of_pair (h : q.phase = .playing) {p : SoundPair} {rest : List SoundPair} (hpairs : q.pairs = p :: rest) :
    q.tick = ({ q with pairs := if q.hold then p :: rest else rest, last := some p, hold := false }, p, false) := by
  rw [Playout.tick, h, hpairs]

theorem Playout.tick_of_underrun (h : q.phase = .playing) (hpairs : q.pairs = []) :
    q.tick = ({ q with phase := .priming, fade := 1, hold := false }, fadedPair q.last 1, true) := by
  rw [Playout.tick, h, hpairs]

theorem Playout.tick_of_silent (h : q.phase = .priming) (hfade : q.fade = 0) : q.tick = (q, SoundPair.silent, false) := by
  rw [Playout.tick, h]
  exact if_pos hfade

theorem Playout.tick_of_fading (h : q.phase = .priming) (hfade : q.fade ≠ 0) :
    q.tick = ({ q with fade := if q.fade + 1 < 32 then q.fade + 1 else 0 }, fadedPair q.last (q.fade + 1), false) := by
  have hstep : (if 32 ≤ q.fade + 1 then 0 else q.fade + 1) = if q.fade + 1 < 32 then q.fade + 1 else 0 := by
    split <;> split <;> omega
  rw [← hstep, Playout.tick, h]
  exact if_neg hfade

end

/-- What a queue gives, in each state it can be in (R85, R86). -/
theorem Playout.tick_gives (q : Playout) : GivesAtTick q q.tick.1 q.tick.2.1 := by
  refine ⟨fun hidle => ?idle, fun hplays p rest hpairs => ?pair, fun hplays hempty => ?underrun, fun hprimes hfade => ?silent,
    fun hprimes hfade => ?fading⟩
  case idle =>
    rw [Playout.tick_of_idle hidle]
    exact ⟨rfl, rfl⟩
  case pair =>
    rw [Playout.tick_of_pair hplays hpairs]
    exact ⟨rfl, rfl⟩
  case underrun =>
    rw [Playout.tick_of_underrun hplays hempty]
    exact ⟨rfl, fadedPair_gives q (by decide)⟩
  case silent =>
    rw [Playout.tick_of_silent hprimes hfade]
    exact ⟨rfl, rfl⟩
  case fading =>
    rw [Playout.tick_of_fading hprimes hfade]
    exact ⟨rfl, fun hlast => fadedPair_gives q (Nat.succ_le_succ hlast)⟩

theorem Playout.tick_underruns (q : Playout) : q.tick.2.2 = decide (q.phase = .playing ∧ q.pairs = []) := by
  cases hphase : q.phase with
  | idle => simp [Playout.tick_of_idle hphase]
  | playing =>
    cases hpairs : q.pairs with
    | nil => simp [Playout.tick_of_underrun hphase hpairs]
    | cons p rest => simp [Playout.tick_of_pair hphase hpairs]
  | priming =>
    by_cases hfade : q.fade = 0
    · simp [Playout.tick_of_silent hphase hfade]
    · simp [Playout.tick_of_fading hphase hfade]

/-- The schedule's next event lies 125 sixths of a microsecond on, whatever sixths are left over. -/
theorem Rate48.next_of48 (r : Rate48) : NextOf48 r r.next := by
  refine ⟨congrArg (fun d => r.due + BitVec.ofNat 32 d) ?_, ?_⟩
  · omega
  · show (r.sixths + 5) % 6 = (125 + r.sixths) % 6
    omega

/-- Running on to a due time neither bars sound nor frees it. -/
theorem State.runTo_soundBarred (d : Time) (s : State) : (s.runTo d).soundBarred = s.soundBarred := by
  simp only [State.soundBarred, State.runTo_link_state, State.runTo_clock_source, State.runTo_stance]

/-- The tick's events are the underruns of the two queues. -/
theorem State.outputTick_raised (s : State) : EventsRaised (EventKind.playoutUnderrun.markIf
    (decide ((s.sound.queueA.phase = .playing ∧ s.sound.queueA.pairs = []) ∨
      (s.sound.queueB.phase = .playing ∧ s.sound.queueB.pairs = [])))) s s.outputTick := by
  rw [Bool.decide_or, ← Playout.tick_underruns, ← Playout.tick_underruns]
  exact EventsRaised.raiseIf_of_events rfl _ _

/-- The pair that the converter is given (R90 to R92). -/
def State.mixedOutput (s : State) : SoundPair :=
  if s.soundBarred then SoundPair.silent else
    ⟨mixedBy s.sound.queueA.tick.2.1.left s.sound.queueB.tick.2.1.left s.sound.audio.gainA s.sound.audio.gainB s.appliedMaster,
      mixedBy s.sound.queueA.tick.2.1.right s.sound.queueB.tick.2.1.right s.sound.audio.gainA s.sound.audio.gainB s.appliedMaster⟩

theorem State.runTo_mixedOutput (d : Time) (s : State) : (s.runTo d).mixedOutput = s.mixedOutput := by
  simp only [State.mixedOutput, State.appliedMaster, State.runTo_soundBarred, State.runTo_sound, State.runTo_power]

theorem State.outputTick_sound (s : State) : s.outputTick.sound = { s.sound with
    queueA := s.sound.queueA.tick.1
    queueB := s.sound.queueB.tick.1
    tickCount := s.sound.tickCount + 1
    slipDue := s.sound.slipDue || decide ((s.sound.tickCount + 1) % 480 = 0)
    tick := s.sound.tick.next
    output := s.mixedOutput } := by
  simp only [State.outputTick, State.raiseIf_sound]
  rfl

end Sys2Proof.Machine

open Sys2Proof Sys2Proof.Machine

/-- Settles O28: the two queues tick by themselves, and the mixer takes what they give. -/
theorem outputTickMixes : Obligations.OutputTickMixes := by
  intro s hserved hruns u hu
  have hrun : ChangesOnly [.clock, .lane] s u := hu ▸ s.runTo_changes _
  have htick := u.outputTick_changes
  have hsound : u.sound = s.sound := by rw [hu, State.runTo_sound]
  have hafter := u.outputTick_sound
  have hraised := u.outputTick_raised
  rw [hsound] at hafter hraised
  refine ⟨u.outputTick, hu ▸ State.inTurn_timed (due := fun s => some s.sound.tick.due) hserved hruns rfl,
    hrun.step htick (by decide) (by decide), htick.clock_eq (by decide), htick.link_eq (by decide), ?_⟩
  rw [hafter]
  refine ⟨rfl, rfl, Rate48.next_of48 _, ⟨_, _, Playout.tick_gives _, Playout.tick_gives _, ?_⟩,
    hraised.congr (by rw [hu, State.runTo_events]) rfl⟩
  rw [hu, State.runTo_mixedOutput]
  rfl
end

section
namespace Sys2Proof.Machine

/-! ### A microphone sample (R94 to R96) -/

section
variable {s : State}

theorem State.captureActive_iff : s.captureActive = true ↔ s.sound.audio.captureEnable = true ∧ s.stance.voice = true := by
  simp [State.captureActive]

theorem State.runTo_captureActive (d : Time) (s : State) : (s.runTo d).captureActive = s.captureActive := by
  simp only [State.captureActive, State.runTo_sound, State.runTo_stance]

/-- The schedule moves on past the sample. -/
def State.micStepped (s : State) : State := { s with sound := { s.sound with mic := s.sound.mic.next } }

theorem State.micStepped_changes (s : State) : ChangesOnly [.microphone] s s.micStepped := by
  intro p hp
  cases p <;> simp_all [Part.same, State.micStepped]

theorem State.microphone_of_inactive (h : s.captureActive = false) (raw : BitVec 16) : s.microphone raw = s.micStepped :=
  if_neg (Bool.eq_false_iff.1 h)

theorem State.microphone_of_active (h : s.captureActive = true) (raw : BitVec 16) :
    s.microphone raw = s.micStepped.offerCapture ⟨s.captureValue raw.toInt, s.sound.mic.due⟩ := if_pos h

theorem State.microphone_schedule (raw : BitVec 16) (s : State) : (s.microphone raw).sound.mic = s.sound.mic.next := by
  cases h : s.captureActive with
  | false => rw [State.microphone_of_inactive h]; rfl
  | true =>
    rw [State.microphone_of_active h]
    exact State.offerCapture_changes _ _ .microphone (by decide)

theorem State.offerCapture_of_room (h : s.sound.capture.length < 1024) (e : CaptureEntry) :
    s.offerCapture e = { s with sound := { s.sound with capture := s.sound.capture ++ [e] } } := if_pos h

/-- A sample that finds the queue full is counted in the gap (R95). -/
def State.sampleMissed (s : State) : State :=
  { s with sound := { s.sound with captureGap := min 65535 (s.sound.captureGap + 1), captureFilling := true } }

theorem State.offerCapture_of_full (h : 1024 ≤ s.sound.capture.length) (e : CaptureEntry) :
    s.offerCapture e = s.sampleMissed.raiseIf (!s.sound.captureFilling) .captureOverflow := if_neg (not_lt.2 h)

end

end Sys2Proof.Machine

open Sys2Proof Sys2Proof.Machine

/-- Settles O30: the schedule moves on, and while capture is active the sample is offered to the Capture Queue. -/
theorem microphoneSampleCaptured : Obligations.MicrophoneSampleCaptured := by
  intro raw s hserved hruns
  have hexec : exec (.microphoneSample raw) s = .next ((s.runTo s.sound.mic.due).microphone raw) :=
    State.inTurn_timed (due := fun s => some s.sound.mic.due) hserved hruns rfl
  have hrun := s.runTo_changes s.sound.mic.due
  have hactive := s.runTo_captureActive s.sound.mic.due
  have hsound := s.runTo_sound s.sound.mic.due
  have hevents := s.runTo_events s.sound.mic.due
  generalize s.runTo s.sound.mic.due = u at *
  have hmic := u.microphone_changes raw
  refine ⟨_, hexec, hrun.step hmic (by decide) (by decide), hmic.clock_eq (by decide), hmic.link_eq (by decide), ?_, fun hidle => ?idle,
    fun henable hvoice => ?active⟩
  · rw [State.microphone_schedule, hsound]
    exact Rate48.next_of48 _
  case idle =>
    rw [State.microphone_of_inactive (hactive.trans (Bool.eq_false_iff.2 (mt State.captureActive_iff.1 hidle)))]
    exact hrun.step u.micStepped_changes (by decide) (by decide)
  case active =>
    rw [State.microphone_of_active (hactive.trans (State.captureActive_iff.2 ⟨henable, hvoice⟩)), ← hsound]
    refine ⟨fun hroom => ?_, fun hfull => ?_⟩
    · rw [State.offerCapture_of_room (s := u.micStepped) hroom]
      exact ⟨rfl, rfl, rfl, (EventsRaised.refl s).congr rfl hevents⟩
    · rw [State.offerCapture_of_full (s := u.micStepped) hfull, State.raiseIf_sound]
      exact ⟨rfl, rfl, rfl, EventsRaised.raiseIf_of_events (u := u.micStepped.sampleMissed) hevents _ _⟩
end

section
namespace Sys2Proof.Machine

/-! ### A WRITE to AUDIO (R81, R87, R96, R149) -/

/-- The fields of the AUDIO record that a WRITE gives: the structural numbers, the gain slots and the capture enable (R80). -/
structure AudioFields where
  startA : Nat
  startB : Nat
  slipLow : Nat
  slipHigh : Nat
  gainA : Slot
  gainB : Slot
  master : Slot
  capture : Slot
  enable : Bool

/-- The structural numbers lie in their ranges (R81). -/
structure AudioFields.InRange (w : AudioFields) : Prop where
  startA : 1 ≤ w.startA ∧ w.startA ≤ 1023
  startB : 1 ≤ w.startB ∧ w.startB ≤ 1023
  slipLow : w.slipLow ≤ 1022
  slipHigh : 2 ≤ w.slipHigh ∧ w.slipHigh ≤ 1024

/-- The slots of a written AUDIO image. -/
def AudioFields.slots (w : AudioFields) : List Slot :=
  [slotNat w.startA, slotNat w.startB, slotNat w.slipLow, slotNat w.slipHigh, w.gainA, w.gainB, w.master, w.capture, slotBool w.enable]

/-- The AUDIO record as a WRITE leaves it (R81, R149). -/
def AudioRecord.picked (mask : BitVec 32) (a : AudioRecord) (w : AudioFields) : AudioRecord where
  startA := pick mask 0 w.startA a.startA
  startB := pick mask 1 w.startB a.startB
  slipLow := pick mask 2 w.slipLow a.slipLow
  slipHigh := pick mask 3 w.slipHigh a.slipHigh
  gainA := pick mask 4 (clamped 0 192 w.gainA) a.gainA
  gainB := pick mask 5 (clamped 0 192 w.gainB) a.gainB
  masterGain := pick mask 6 (clamped 0 192 w.master) a.masterGain
  captureGain := pick mask 7 (clamped 0 192 w.capture) a.captureGain
  captureEnable := pick mask 8 w.enable a.captureEnable

theorem AudioRecord.written_of_inRange {w : AudioFields} (hw : w.InRange) (mask : BitVec 32) (ignored : List Slot) (extra : List Byte)
    (a : AudioRecord) :
    a.written mask ((maskedImage mask w.slots ignored).flatMap (fun v => le 4 v.toNat) ++ extra) = .ok (a.picked mask w) := by
  obtain ⟨⟨hloA, hhiA⟩, ⟨hloB, hhiB⟩, hlow, hlo, hhi⟩ := hw
  unfold AudioRecord.written AudioFields.slots
  rw [maskedField_maskedImage (by simp) (fun _ => decodeIn_slotNat hloA hhiA (by decide)),
    maskedField_maskedImage (by simp) (fun _ => decodeIn_slotNat hloB hhiB (by decide)),
    maskedField_maskedImage (by simp) (fun _ => decodeIn_slotNat (Nat.zero_le _) hlow (by decide)),
    maskedField_maskedImage (by simp) (fun _ => decodeIn_slotNat hlo hhi (by decide)),
    maskedField_maskedImage (v := clamped 0 192 w.gainA) (by simp) (fun _ => rfl),
    maskedField_maskedImage (v := clamped 0 192 w.gainB) (by simp) (fun _ => rfl),
    maskedField_maskedImage (v := clamped 0 192 w.master) (by simp) (fun _ => rfl),
    maskedField_maskedImage (v := clamped 0 192 w.capture) (by simp) (fun _ => rfl),
    maskedField_maskedImage (by simp) (fun _ => decodeBool_slotBool w.enable)]
  rfl

section
variable {mask : BitVec 32} {constraints : List (Bool × List Nat)} {v : Verdict}

theorem unlessConflict_of_hold (h : constraints.all (·.1) = true) : unlessConflict mask constraints v = v :=
  if_pos (by simpa [List.filter_eq_nil_iff] using h)

theorem unlessConflict_of_broken (h : ¬ constraints.all (·.1) = true) :
    ∃ field, unlessConflict mask constraints v = .refused .conflict field :=
  ⟨_, if_neg (mt (fun hnone => by simpa [List.filter_eq_nil_iff] using hnone) h)⟩

end

/-- A WRITE of values in range comes to R81's constraints, and then to its effect. -/
theorem writeAudioAct_eq {w : AudioFields} (hw : w.InRange) {mask : BitVec 32} (hmask : mask.toNat < 2 ^ 9) {ignored : List Slot}
    {extra : List Byte} {r : Request} (hoperands : r.operands = writeOperands 5 0 mask (maskedImage mask w.slots ignored) extra) (s : State)
    {a : AudioRecord} (ha : a = s.sound.audio.picked mask w) :
    writeAudioAct r s = unlessConflict mask (audioConstraints a) (.done a.image (s.writeAudio a)) := by
  have hlength : (maskedImage mask w.slots ignored).length = 9 := by
    rw [maskedImage_length]
    rfl
  have hcount : Table.audio.writableSlots ≤ s.fieldCount .audio := show 9 ≤ 9 from le_rfl
  have haudio : (s.writeAudio a).sound.audio = a := State.stopCaptureIfEnded_changes _ _ .audio (by decide)
  have himage : (s.writeAudio a).entryImage .audio 0 = some a.image := congrArg (fun x => some (AudioRecord.image x)) haudio
  rw [writeAudioAct, writeAct_of_write hoperands hcount hlength hmask (by decide) (by decide) (fun _ _ => rfl)]
  simp only [AudioRecord.written_of_inRange hw, ← ha, ranged, doneWrite, himage, Option.getD_some]

/-! What an accepted WRITE does. -/

theorem ChangesOnly.playout_eq {P : List Part} {s t : State} (h : ChangesOnly P s t) (hA : Part.queueA ∉ P) (hB : Part.queueB ∉ P)
    (k : Sink) : t.playout k = s.playout k := by
  cases k
  · exact h .queueA hA
  · exact h .queueB hB

/-- The record set, and both queues judged against its thresholds (R81). -/
def State.audioSet (a : AudioRecord) (s : State) : State := ({ s with sound := { s.sound with audio := a } }).startPrimed

section
variable (a : AudioRecord) {s : State}

theorem State.audioSet_playout (k : Sink) (s : State) : (s.audioSet a).playout k = (s.playout k).startIfPrimed (a.start k) := by
  cases k <;> rfl

theorem State.writeAudio_playout (k : Sink) (s : State) : (s.writeAudio a).playout k = (s.playout k).startIfPrimed (a.start k) :=
  ((State.stopCaptureIfEnded_changes _ _).playout_eq (by decide) (by decide) k).trans (State.audioSet_playout a k s)

theorem State.writeAudio_captureActive : (s.writeAudio a).captureActive = (s.audioSet a).captureActive :=
  State.captureActive_of_changes (State.stopCaptureIfEnded_changes _ _) (by decide)

theorem State.writeAudio_of_stops (hwas : s.captureActive = true) (hnow : (s.writeAudio a).captureActive = false) :
    s.writeAudio a = (s.audioSet a).stopCapture := by
  rw [State.writeAudio_captureActive] at hnow
  exact if_pos (show (s.captureActive && !(s.audioSet a).captureActive) = true by rw [hwas, hnow]; rfl)

theorem State.writeAudio_of_goes_on (h : s.captureActive = false ∨ (s.writeAudio a).captureActive = true) :
    s.writeAudio a = s.audioSet a := by
  rw [State.writeAudio_captureActive] at h
  exact if_neg (show ¬ (s.captureActive && !(s.audioSet a).captureActive) = true by rcases h with h | h <;> simp [h])

end

/-- A stop takes the newest partial block off the queue (R96). -/
theorem State.stopCapture_stopped (s : State) : CaptureStopped s s.stopCapture := by
  have hkept : s.stopCapture.sound.capture.length = s.sound.capture.length - s.sound.capture.length % voiceBlock := by
    simp [State.stopCapture]
  refine ⟨rfl, rfl, ?_⟩
  rw [hkept]
  rfl

end Sys2Proof.Machine

open Sys2Proof Sys2Proof.Machine

/-- Settles O41: the WRITE comes to R81's constraints; an accepted one judges the queues anew, and stops capture if its enable did. -/
theorem writeAudio : Obligations.WriteAudio := by
  intro mask startA startB slipLow slipHigh gainA gainB master capture enable ignored extra hmask hstartA hstartB hlow hhigh r hop hoperands
    rest s h a ha
  have hrow : r.service = .writeAudio := by
    have htable : r.table = some .audio := Request.table_of_write hoperands
    simp [Request.service, hop, htable]
  have hact := writeAudioAct_eq (w := ⟨startA, startB, slipLow, slipHigh, gainA, gainB, master, capture, enable⟩)
    ⟨hstartA, hstartB, hlow, hhigh⟩ hmask hoperands (s.dequeued rest) ha
  refine ⟨_, exec_atService rfl h hrow, fun hbroken => ?conflict, fun hfit => ?written⟩
  case conflict =>
    obtain ⟨field, hrefused⟩ := unlessConflict_of_broken (mt audioConstraints_hold_iff.1 hbroken)
    exact ⟨field, State.afterService_refused (hact.trans hrefused)⟩
  case written =>
    have hchanges := (s.dequeued rest).writeAudio_changes a
    rw [State.afterService_done (hact.trans (unlessConflict_of_hold (audioConstraints_hold_iff.2 hfit)))]
    refine ⟨State.stopCaptureIfEnded_changes _ _ .audio (by decide), Answered.place hchanges (by decide) _,
      fun k => State.writeAudio_playout a k (s.dequeued rest), fun hwas hnow => ?stops, fun hgoes => ?goes_on,
      hchanges.place (by decide) _⟩
    case stops =>
      rw [State.writeAudio_of_stops (s := s.dequeued rest) a hwas hnow]
      exact ((s.dequeued rest).audioSet a).stopCapture_stopped
    case goes_on =>
      rw [State.writeAudio_of_goes_on (s := s.dequeued rest) a hgoes]
      exact ⟨rfl, rfl, rfl⟩
end

section
namespace Sys2Proof.Machine

/-! ### A SOUND cell at its queue (R82 to R84, R87) -/

/-- A good cell holds a pair at least (R169). -/
theorem soundPairs_ne_nil {pairs : List (BitVec 24 × BitVec 24)} (h : soundPairsFit pairs = true) : soundPairs pairs ≠ [] := by
  simp only [soundPairsFit, Bool.and_eq_true, decide_eq_true_eq] at h
  exact List.ne_nil_of_length_pos (by rw [soundPairs, List.length_map]; omega)

/-- Pairs joined to a queue that has room for all of them: a queue whose fill has reached the start threshold plays, with its fade ended,
and another is PRIMING (R83, R84, R87). -/
def Playout.joined (start : Nat) (ps : List SoundPair) (q : Playout) : Playout :=
  if q.phase = .playing ∨ start ≤ q.pairs.length + ps.length then { q with pairs := q.pairs ++ ps, phase := .playing, fade := 0 }
  else { q with pairs := q.pairs ++ ps, phase := .priming }

section
variable {start : Nat} {q : Playout} {ps : List SoundPair}

theorem Playout.joined_of_plays (h : q.phase = .playing ∨ start ≤ q.pairs.length + ps.length) :
    q.joined start ps = { q with pairs := q.pairs ++ ps, phase := .playing, fade := 0 } := if_pos h

theorem Playout.joined_of_waits (hphase : q.phase ≠ .playing) (hlength : q.pairs.length + ps.length < start) :
    q.joined start ps = { q with pairs := q.pairs ++ ps, phase := .priming } :=
  if_neg (not_or.2 ⟨hphase, not_le.2 hlength⟩)

theorem Playout.joined_pairs : (q.joined start ps).pairs = q.pairs ++ ps := by
  unfold Playout.joined
  split <;> rfl

theorem Playout.joined_phase : (q.joined start ps).phase =
    if q.phase = .playing ∨ start ≤ q.pairs.length + ps.length then .playing else .priming := by
  unfold Playout.joined
  split <;> rfl

theorem Playout.joined_fade : (q.joined start ps).fade = if (q.joined start ps).phase = .playing then 0 else q.fade := by
  rw [Playout.joined]
  split <;> rfl

theorem Playout.joined_last : (q.joined start ps).last = q.last := by
  unfold Playout.joined
  split <;> rfl

theorem Playout.joined_hold : (q.joined start ps).hold = q.hold := by
  unfold Playout.joined
  split <;> rfl

/-- Pairs joined in two goes: the queue starts in the first, in the second, or not at all. -/
theorem Playout.joined_joined (qs : List SoundPair) : (q.joined start ps).joined start qs = q.joined start (ps ++ qs) := by
  by_cases hfirst : q.phase = .playing ∨ start ≤ q.pairs.length + ps.length
  · rw [Playout.joined_of_plays hfirst, Playout.joined_of_plays (.inl rfl),
      Playout.joined_of_plays (hfirst.imp_right fun h => by rw [List.length_append]; omega), List.append_assoc]
  · obtain ⟨hphase, hlength⟩ := not_or.1 hfirst
    rw [Playout.joined_of_waits hphase (not_le.1 hlength)]
    by_cases hsecond : start ≤ q.pairs.length + (ps ++ qs).length
    · rw [Playout.joined_of_plays (.inr hsecond),
        Playout.joined_of_plays (.inr (by simpa [Nat.add_assoc] using hsecond)), List.append_assoc]
    · rw [Playout.joined_of_waits hphase (not_le.1 hsecond),
        Playout.joined_of_waits (by simp) (by simpa [Nat.add_assoc] using hsecond), List.append_assoc]

theorem Playout.append_eq_joined (hplaying : q.phase = .playing → q.fade = 0) (p : SoundPair) :
    q.append start p = q.joined start [p] := by
  obtain ⟨phase, pairs, fade, last, hold⟩ := q
  cases phase with
  | playing =>
    obtain rfl : fade = 0 := hplaying rfl
    simp [Playout.append, Playout.startIfPrimed, Playout.joined]
  | idle | priming =>
    by_cases hstarts : start ≤ pairs.length + 1 <;> simp [Playout.append, Playout.startIfPrimed, Playout.joined, hstarts]

/-- A queue that has left IDLE, and is judged against its start threshold, stands where no pair joins it. -/
theorem Playout.joined_nil (h : PlayoutLaw start q) (hphase : q.phase ≠ .idle) : q.joined start [] = q := by
  obtain ⟨phase, pairs, fade, last, hold⟩ := q
  cases phase with
  | idle => exact absurd rfl hphase
  | playing =>
    obtain ⟨rfl, -⟩ := (playoutLaw_of_playing rfl).1 h
    simp [Playout.joined]
  | priming =>
    obtain ⟨hlength, -⟩ := (playoutLaw_of_priming rfl).1 h
    have hwaits : ¬ start ≤ pairs.length := not_le.2 hlength
    simp [Playout.joined, hwaits]

/-- As many pairs join as there is room for, and the answer says whether all did (R83). A queue that no pair joins must stand as it is
judged already. -/
theorem Playout.appendAll_eq_joined (hplaying : q.phase = .playing → q.fade = 0) (hroom : q.pairs.length ≤ 1024)
    (hstays : ps = [] ∨ q.pairs.length = 1024 → q.joined start [] = q) :
    Playout.appendAll start ps q = (decide (q.pairs.length + ps.length ≤ 1024), q.joined start (ps.take (1024 - q.pairs.length))) := by
  induction ps generalizing q with
  | nil => simp [Playout.appendAll, hroom, hstays]
  | cons p ps ih =>
    unfold Playout.appendAll
    split
    next hfits =>
      have hfits : q.pairs.length < 1024 := hfits
      have hlength : (q.joined start [p]).pairs.length = q.pairs.length + 1 := by simp [Playout.joined_pairs]
      have htake : (p :: ps).take (1024 - q.pairs.length) = [p] ++ ps.take (1024 - (q.pairs.length + 1)) := by
        rw [show 1024 - q.pairs.length = 1024 - (q.pairs.length + 1) + 1 by omega]
        rfl
      rw [Playout.append_eq_joined hplaying, ih (fun hplays => Playout.joined_fade.trans (if_pos hplays)) (by omega)
        (fun _ => by rw [Playout.joined_joined, List.append_nil]), hlength, Playout.joined_joined, htake, List.length_cons,
        Nat.add_right_comm, Nat.add_assoc]
    next hfull =>
      have hfull : q.pairs.length = 1024 := hroom.antisymm (not_lt.1 hfull)
      simp [hfull, hstays]

/-- The pairs of a cell, which holds one at least, find the queue judged already, or with room for the first. -/
theorem PlayoutLaw.appendAll_eq_joined (h : PlayoutLaw start q) (hroom : q.pairs.length ≤ 1024)
    (hps : ps ≠ []) : Playout.appendAll start ps q =
      (decide (q.pairs.length + ps.length ≤ 1024), q.joined start (ps.take (1024 - q.pairs.length))) := by
  have ⟨hidle, _, hplaying, _⟩ := h
  refine Playout.appendAll_eq_joined hplaying hroom fun hnone => Playout.joined_nil h fun hphase => ?_
  have hfull := hnone.resolve_left hps
  rw [hidle hphase] at hfull
  cases hfull

end

section
variable {k : Sink} {pairs : List SoundPair} {s : State}

theorem State.takeSound_of_barred (h : s.soundBarred = true) : s.takeSound k pairs = (false, s) := if_pos h

/-- A queue takes a cell's pairs as far as it has room, and the rest overflow (R83). -/
theorem State.takeSound_of_free (h : s.soundBarred = false) (hlaw : PlayoutLaw (s.sound.audio.start k) (s.playout k))
    (hroom : (s.playout k).pairs.length ≤ 1024) (hps : pairs ≠ []) :
    s.takeSound k pairs = (decide ((s.playout k).pairs.length + pairs.length ≤ 1024),
      (s.setPlayout k ((s.playout k).joined (s.sound.audio.start k) (pairs.take (1024 - (s.playout k).pairs.length)))).raiseIf
        (decide (1024 < (s.playout k).pairs.length + pairs.length)) .playoutOverflow) := by
  rw [State.takeSound, h, if_neg (by simp), hlaw.appendAll_eq_joined hroom hps]
  simp only [← decide_not, not_le]

end

theorem State.handed_soundBarred (s : State) : s.handed.soundBarred = s.goodHeader.soundBarred := rfl

theorem State.handed_audio (s : State) : s.handed.sound.audio = s.sound.audio := s.goodHeader_changes .audio (by decide)

theorem State.handed_playout (k : Sink) (s : State) : s.handed.playout k = s.playout k :=
  (s.goodHeader_changes.step (State.handOn_changes _) (R := headerParts) (by decide) (by decide)).playout_eq (by decide) (by decide) k

theorem State.playout_congr {s t : State} (h : t.sound = s.sound) (k : Sink) : t.playout k = s.playout k := by
  cases k <;> simp only [State.playout, h]

/-- A cell admitted by its stream's entry is delivered with that entry (R135, R136). -/
theorem State.arrive_of_entry {i : Fin 32} {admits : StreamEntry → Bool} {s : State} (h : admits s.streams[i] = true)
    (deliver : StreamEntry → State → Bool × State) :
    s.arrive i admits deliver = (deliver s.streams[i] s.handed).2.countCell i (deliver s.streams[i] s.handed).1 := by
  have hentry : s.handed.streams[i] = s.streams[i] := by rw [State.handed_streams]
  rw [← hentry] at h ⊢
  exact if_pos h

end Sys2Proof.Machine

open Sys2Proof Sys2Proof.Machine

/-- Settles O26: a barred cell is dropped whole; another's pairs join the queue of its stream's sink as far as there is room. -/
theorem soundFillsQueue : Obligations.SoundFillsQueue := by
  intro i pairs s hserved hreceiving hfits hadmits
  have hexec : exec (.sound i pairs) s = .next (s.arrive i (admitsKind .sound) fun e u => u.takeSound e.sink (soundPairs pairs)) :=
    (State.inTurn_whenReceiving hserved hreceiving _).trans (congrArg _ (if_pos hfits))
  rw [State.arrive_of_entry hadmits] at hexec
  generalize s.streams[i].sink = k at hexec ⊢
  have hdelivered := State.countCell_delivered (s.handed.takeSound_changes k (soundPairs pairs)) (by decide) i
  refine ⟨_, _, hexec, exec_fill hserved hreceiving 0, hdelivered.handedOn, hdelivered.changes, fun hbarred => ?barred,
    fun hfree hlaw hroom => ?free⟩
  case barred =>
    rw [State.takeSound_of_barred (s.handed_soundBarred.trans hbarred)] at hdelivered ⊢
    exact ⟨hdelivered.counted, fun j => s.handed_playout j, EventsRaised.refl s.goodHeader⟩
  case free =>
    have hlength : (soundPairs pairs).length = pairs.length := List.length_map _
    have htakes := State.takeSound_of_free (pairs := soundPairs pairs) (s := s.handed) hfree
      (by rwa [State.handed_audio, State.handed_playout]) (by rwa [State.handed_playout]) (soundPairs_ne_nil hfits)
    rw [State.handed_audio, State.handed_playout, hlength] at htakes
    rw [htakes] at hdelivered ⊢
    have hplayout : ∀ (taken : Bool) (q : Playout) (b : Bool) (j : Sink),
        (((s.handed.setPlayout k q).raiseIf b .playoutOverflow).countCell i taken).playout j = (s.handed.setPlayout k q).playout j :=
      fun _ _ _ => State.playout_congr (State.raiseIf_sound ..)
    simp only [hplayout, State.playout_setPlayout]
    refine ⟨fun j hj => (State.playout_setPlayout_of_ne hj _ _).trans (s.handed_playout j), ?_, ?_, Playout.joined_fade,
      Playout.joined_last, Playout.joined_hold, hdelivered.counted, EventsRaised.raiseIf_of_events (State.setPlayout_events k _ _) _ _⟩
    · rw [Playout.joined_pairs, soundPairs, List.map_take]
    · rw [Playout.joined_phase, Playout.joined_pairs, List.length_append]
end

section
namespace Sys2Proof.Machine

/-! ### The count of a cell on its stream (R123, R135 to R137) -/

/-- One of the two counters of a cell's stream rises by one. -/
theorem CountedOn.total {i : Fin 32} {taken : Bool} {s t : State} (h : CountedOn i taken s t) :
    t.streams[i].accepted + t.streams[i].discarded = s.streams[i].accepted + s.streams[i].discarded + 1 := by
  have hentry : t.streams[i] = if taken then { s.streams[i] with accepted := s.streams[i].accepted + 1 }
      else { s.streams[i] with discarded := s.streams[i].discarded + 1 } := by
    rw [h]
    exact Vector.getElem_set_self _
  rw [hentry]
  cases taken
  · exact (add_assoc _ _ _).symm
  · exact add_right_comm _ _ _

/-- A cell that its stream's entry turns away is handed on, counted as discarded, and reaches no block (R135, R137). -/
theorem State.arrive_of_barred {i : Fin 32} {admits : StreamEntry → Bool} {s : State} (h : admits s.streams[i] = false)
    (deliver : StreamEntry → State → Bool × State) : s.arrive i admits deliver = s.handed.countCell i false := by
  have hentry : admits s.handed.streams[i] = false := by rwa [State.handed_streams]
  exact if_neg (Bool.eq_false_iff.1 hentry)

theorem State.barred_delivered (i : Fin 32) (s : State) :
    Delivered i [] (false, s.handed) s (s.handed.countCell i false) :=
  State.countCell_delivered (r := (false, s.handed)) (.refl [] _) (by simp) i

/-- A cell that arrives is handed on and counted once, whatever its block makes of it. -/
theorem State.arrive_delivered {P : List Part} {i : Fin 32} {admits : StreamEntry → Bool} {deliver : StreamEntry → State → Bool × State}
    (hdeliver : ∀ e u, ChangesOnly P u (deliver e u).2) (hP : ∀ p ∈ [Part.link, .lane, .counters, .streams], p ∉ P) (s : State) :
    ∃ (Q : List Part) (r : Bool × State), Delivered i Q r s (s.arrive i admits deliver) := by
  cases h : admits s.streams[i] with
  | true =>
    rw [State.arrive_of_entry h]
    exact ⟨P, _, State.countCell_delivered (hdeliver _ _) hP i⟩
  | false =>
    rw [State.arrive_of_barred h]
    exact ⟨[], _, s.barred_delivered i⟩

/-- The delivery of a cell to its block: it leaves the link and the Stream Table. -/
def LeavesReceiver (deliver : StreamEntry → State → Bool × State) : Prop :=
  ∃ P : List Part, (∀ e u, ChangesOnly P u (deliver e u).2) ∧ ∀ p ∈ [Part.link, .lane, .counters, .streams], p ∉ P

/-- A cell that is handed on arrives at its stream's entry, which admits it by Table 8-2. -/
theorem exec_handed {c : Instr} {i : Fin 32} {s : State} (hserved : s.served) (hreceiving : s.receiving = true)
    (h : s.handedStream c = some i) :
    ∃ deliver, LeavesReceiver deliver ∧ exec c s = .next (s.arrive i (admitsCell c) deliver) := by
  have hcell := fun f => State.inTurn_whenReceiving hserved hreceiving f
  cases c
  all_goals simp only [State.handedStream, reduceCtorEq, Option.some.injEq, Option.ite_none_right_eq_some,
    Option.ite_none_left_eq_some] at h
  case picOpen _ f flags time =>
    subst h
    exact ⟨_, ⟨_, fun _ u => u.openFrame_changes f (flags.getLsbD 0) time, by decide⟩, hcell _⟩
  case picBand _ f eye band rows =>
    obtain ⟨hfits, rfl⟩ := h
    exact ⟨_, ⟨_, fun _ u => u.acceptBand_changes f eye band rows, by decide⟩, (hcell _).trans (congrArg _ (if_pos hfits))⟩
  case picClose _ f =>
    subst h
    exact ⟨_, ⟨_, fun _ u => u.closeFrame_changes f, by decide⟩, hcell _⟩
  case sound _ pairs =>
    obtain ⟨hfits, rfl⟩ := h
    exact ⟨fun e u => u.takeSound e.sink (soundPairs pairs), ⟨_, fun e u => u.takeSound_changes e.sink (soundPairs pairs), by decide⟩,
      (hcell _).trans (congrArg _ (if_pos hfits))⟩
  case ask j tag op operands =>
    obtain ⟨hfits, rfl⟩ := h
    exact ⟨_, ⟨_, fun _ u => u.takeAsk_changes ⟨j, tag, op, operands⟩, by decide⟩, (hcell _).trans (congrArg _ (if_pos hfits))⟩
  case reset j =>
    obtain ⟨hother, rfl⟩ := h
    have hadmits : (fun _ : StreamEntry => j == 0) = admitsCell (.reset j) := funext fun _ => beq_eq_false_iff_ne.2 hother
    refine ⟨fun _ u => (true, u), ⟨[], fun _ u => .refl [] u, by simp⟩, (hcell _).trans (congrArg _ ((if_neg hother).trans ?_))⟩
    rw [hadmits]

end Sys2Proof.Machine

open Sys2Proof Sys2Proof.Machine

/-- Settles O21: a cell that is handed on arrives at its stream, where it is counted by what its block makes of it, or as discarded. -/
theorem cellsCountedOnce : Obligations.CellsCountedOnce := by
  intro c i s hserved hreceiving hhanded
  obtain ⟨deliver, ⟨P, hdeliver, hP⟩, hexec⟩ := exec_handed hserved hreceiving hhanded
  obtain ⟨_, ⟨taken, _⟩, hdelivered⟩ := State.arrive_delivered (admits := admitsCell c) (i := i) hdeliver hP s
  have hcounted : CountedOn i taken s _ := hdelivered.counted
  refine ⟨_, _, hexec, exec_fill hserved hreceiving 0, hcounted.total, ?_, hdelivered.handedOn, fun hbarred => ?_⟩
  · cases taken
    · exact .inr hcounted
    · exact .inl hcounted
  · rw [State.arrive_of_barred hbarred]
    exact ⟨(s.barred_delivered i).counted, (s.barred_delivered i).changes⟩
end

section
namespace Sys2Proof.Machine

/-! ### A good header (R118 to R120, R125) -/

/-- The part after a good header, before the cell boundary that a link becoming UP opens. -/
def State.headerCounted (s : State) : State :=
  match s.link.state with
  | .down => s
  | .training =>
    if 7 ≤ s.link.goodRun then s.setLink { s.link with state := .up, goodRun := 0, badRun := 0 }
    else s.setLink { s.link with goodRun := s.link.goodRun + 1 }
  | .up => s.setLink { s.link with badRun := 0 }
  | .lost =>
    if 7 ≤ s.link.goodRun then
      (s.setLink { s.link with
        state := .up
        goodRun := 0
        badRun := 0
        hold := none
        counters := { s.link.counters with recoveries := s.link.counters.recoveries + 1 } }).raise .linkRecovered
    else s.setLink { s.link with goodRun := s.link.goodRun + 1 }

section
variable {s : State}

theorem State.headerCounted_of_down (h : s.link.state = .down) : s.headerCounted = s := by simp only [State.headerCounted, h]

theorem State.headerCounted_of_up (h : s.link.state = .up) : s.headerCounted = s.setLink { s.link with badRun := 0 } := by
  simp only [State.headerCounted, h]

/-- A good header in a run that has not reached its eighth. -/
theorem State.headerCounted_of_short (h : s.link.state = .training ∨ s.link.state = .lost) (hrun : s.link.goodRun < 7) :
    s.headerCounted = s.setLink { s.link with goodRun := s.link.goodRun + 1 } := by
  rcases h with h | h <;> simp only [State.headerCounted, h, if_neg (not_le.2 hrun)]

theorem State.headerCounted_of_trained (h : s.link.state = .training) (hrun : 7 ≤ s.link.goodRun) :
    s.headerCounted = s.setLink { s.link with state := .up, goodRun := 0, badRun := 0 } := by
  simp only [State.headerCounted, h, if_pos hrun]

theorem State.headerCounted_of_recovered (h : s.link.state = .lost) (hrun : 7 ≤ s.link.goodRun) :
    s.headerCounted = (s.setLink { s.link with
      state := .up
      goodRun := 0
      badRun := 0
      hold := none
      counters := { s.link.counters with recoveries := s.link.counters.recoveries + 1 } }).raise .linkRecovered := by
  simp only [State.headerCounted, h, if_pos hrun]

/-- The cases of Table 7-1 for a good header. -/
theorem State.headerCases (s : State) : s.link.state = .down ∨ s.link.state = .up ∨
    (s.link.state = .training ∨ s.link.state = .lost) ∧ s.link.goodRun < 7 ∨
    s.link.state = .training ∧ 7 ≤ s.link.goodRun ∨ s.link.state = .lost ∧ 7 ≤ s.link.goodRun := by
  cases s.link.state <;> simp [lt_or_ge]

/-- The boundary at a link's becoming UP changes nothing where no cell may leave the idle lane, and waits for a cell still on the wire
(R125, log 30). -/
theorem State.firstBoundary_eq (s : State) : s.firstBoundary =
    if s.clock.source = .crystal ∧ s.sender.wire = none then s.cellBoundary else s := by
  cases hwire : s.sender.wire with
  | some cell => simp [State.firstBoundary, hwire]
  | none =>
    have hfirst : s.firstBoundary = s.cellBoundary := by simp [State.firstBoundary, hwire]
    rw [hfirst]
    split
    · rfl
    next hidle =>
      rw [State.cellBoundary_of_idle (.inr fun hcrystal => hidle ⟨hcrystal, rfl⟩), ← hwire]

/-- The lane opens at the eighth good header of a run, while the source is CRYSTAL and the lane idle (R125, log 30). -/
theorem State.opensLane_iff : s.opensLane = true ↔ (s.link.state = .training ∨ s.link.state = .lost) ∧ 7 ≤ s.link.goodRun ∧
    s.clock.source = .crystal ∧ s.sender.wire = none := by
  simp only [State.opensLane, Bool.and_eq_true, Bool.or_eq_true, beq_iff_eq, decide_eq_true_eq, Option.isNone_iff_eq_none, and_assoc]

theorem State.goodHeader_eq (s : State) : s.goodHeader = if s.opensLane then s.headerCounted.cellBoundary else s.headerCounted := by
  have hopens : s.link.state = .training ∨ s.link.state = .lost → 7 ≤ s.link.goodRun →
      (s.clock.source = .crystal ∧ s.sender.wire = none ↔ s.opensLane = true) := fun hstate hrun => by
    simp [State.opensLane_iff, hstate, hrun]
  have hstays : ¬ (s.link.state = .training ∨ s.link.state = .lost) ∨ s.link.goodRun < 7 → s.opensLane ≠ true := by
    rw [Ne, State.opensLane_iff]
    rintro (h | h) ⟨hstate, hrun, -⟩
    · exact h hstate
    · exact absurd hrun (not_le.2 h)
  rcases s.headerCases with h | h | ⟨h, hrun⟩ | ⟨h, hrun⟩ | ⟨h, hrun⟩
  · rw [if_neg (hstays (.inl (by simp [h]))), State.headerCounted_of_down h]
    simp only [State.goodHeader, h]
  · rw [if_neg (hstays (.inl (by simp [h]))), State.headerCounted_of_up h]
    simp only [State.goodHeader, h]
  · rw [if_neg (hstays (.inr hrun)), State.headerCounted_of_short h hrun]
    rcases h with h | h <;> simp only [State.goodHeader, h, if_neg (not_le.2 hrun)]
  · rw [State.headerCounted_of_trained h hrun]
    simp only [State.goodHeader, h, if_pos hrun, State.firstBoundary_eq]
    exact if_congr (hopens (.inl h) hrun) rfl rfl
  · rw [State.headerCounted_of_recovered h hrun]
    simp only [State.goodHeader, State.recover, h, if_pos hrun, State.firstBoundary_eq]
    exact if_congr (hopens (.inr h) hrun) rfl rfl

end

theorem State.headerCounted_reads (s : State) : AfterGoodHeader s s.headerCounted := by
  refine ⟨fun h => ?_, fun h hrun => ?_, fun h hrun => ?_, fun h => ?_, fun h hrun => ?_, fun h hrun => ?_⟩
  · rw [State.headerCounted_of_down h]
    exact ⟨h, rfl, rfl, rfl, rfl⟩
  · rw [State.headerCounted_of_short (.inl h) hrun]
    exact ⟨h, rfl, rfl, rfl, rfl⟩
  · rw [State.headerCounted_of_trained h hrun]
    exact ⟨rfl, rfl, rfl, rfl, rfl⟩
  · rw [State.headerCounted_of_up h]
    exact ⟨h, rfl, rfl, rfl, rfl⟩
  · rw [State.headerCounted_of_short (.inr h) hrun]
    exact ⟨h, rfl, rfl, rfl, rfl⟩
  · rw [State.headerCounted_of_recovered h hrun]
    exact ⟨rfl, rfl, rfl, rfl, rfl⟩

/-- The link's state, runs and timer set, its counters and its two lane inputs kept. -/
theorem State.setRuns_changes (state : LinkState) (goodRun badRun : Nat) (hold : Option Time) (s : State) :
    ChangesOnly [.link] s (s.setLink { s.link with state := state, goodRun := goodRun, badRun := badRun, hold := hold }) := by
  intro p hp
  cases p <;> simp_all [Part.same]

theorem State.headerCounted_changes (s : State) : ChangesOnly [.link, .counters, .raised, .notice] s s.headerCounted := by
  rcases s.headerCases with h | h | ⟨h, hrun⟩ | ⟨h, hrun⟩ | ⟨h, hrun⟩
  · rw [State.headerCounted_of_down h]
    exact .refl _ s
  · rw [State.headerCounted_of_up h]
    exact (State.setRuns_changes _ _ _ _ s).mono (by decide)
  · rw [State.headerCounted_of_short h hrun]
    exact (State.setRuns_changes _ _ _ _ s).mono (by decide)
  · rw [State.headerCounted_of_trained h hrun]
    exact (State.setRuns_changes _ _ _ _ s).mono (by decide)
  · rw [State.headerCounted_of_recovered h hrun]
    exact ((s.setRuns_changes .up 0 0 none).step (State.setCounters_changes _ _) (by decide) (by decide)).step
      (State.raise_changes _ _) (List.Subset.refl _) (by decide)

theorem State.headerCounted_raised (s : State) : EventsRaised s.recoverMarks s s.headerCounted := by
  have hsilent : ¬ (s.link.state = .lost ∧ 7 ≤ s.link.goodRun) → s.recoverMarks = 0 := fun h => by
    have : (s.link.state == .lost && decide (7 ≤ s.link.goodRun)) = false := by simpa using h
    rw [State.recoverMarks, this]
    rfl
  rcases s.headerCases with h | h | ⟨h, hrun⟩ | ⟨h, hrun⟩ | ⟨h, hrun⟩
  · rw [State.headerCounted_of_down h, hsilent (by simp [h])]
    exact .refl s
  · rw [State.headerCounted_of_up h, hsilent (by simp [h])]
    exact .refl s
  · rw [State.headerCounted_of_short h hrun, hsilent (by simp [hrun])]
    exact .refl s
  · rw [State.headerCounted_of_trained h hrun, hsilent (by simp [h])]
    exact .refl s
  · have hmarks : s.recoverMarks = EventKind.linkRecovered.mark := by simp [State.recoverMarks, h, hrun, EventKind.markIf]
    rw [State.headerCounted_of_recovered h hrun, hmarks]
    exact EventsRaised.raise .linkRecovered s

/-- A change that names no part of the Event Unit leaves it as it was. -/
theorem ChangesOnly.events_eq {P : List Part} {s t : State} (h : ChangesOnly P s t)
    (hP : ∀ p ∈ [Part.raised, .enabled, .gate, .lock, .notice], p ∉ P) : t.events = s.events := by
  have same := fun p hp => h p (hP p hp)
  simp only [List.mem_cons, List.not_mem_nil, or_false, forall_eq_or_imp, forall_eq, Part.same] at same
  obtain ⟨raised, enabled, gateOpen, lock, notice⟩ := same
  generalize t.events = a at *
  generalize s.events = b at *
  cases a
  cases b
  simp_all

/-! ### A bad header, and the entry to LOST (R118, R119, R122, Table 7-2) -/

/-- The link at its entry to LOST, before the other blocks act (R119). -/
def State.markedLost (s : State) : State :=
  s.setLink { s.link with
    state := .lost
    goodRun := 0
    badRun := 0
    hold := some (s.clock.now + 250000)
    counters := { s.link.counters with losses := s.link.counters.losses + 1 } }

theorem State.soundBarred_of_not_up {s : State} (h : s.link.state ≠ .up) : s.soundBarred = true := by simp [State.soundBarred, h]

theorem State.soundBarred_of_fallback {s : State} (h : s.clock.source = .fallback) : s.soundBarred = true := by
  simp [State.soundBarred, h]

/-- While sound is barred the blocks go dark and silent together (R72, R93). -/
theorem State.darkAndSilent_of_barred {s : State} (h : s.soundBarred = true) : DarkAndSilent s s.blackOut.emptyIfBarred := by
  have hsilent : s.blackOut.emptyIfBarred =
      { s.blackOut with sound := { s.blackOut.sound with queueA := Playout.emptied, queueB := Playout.emptied } } := if_pos h
  rw [hsilent]
  exact ⟨rfl, rfl, rfl, rfl⟩

/-- What going dark and silent leaves. -/
theorem State.darkened_changes (s : State) : ChangesOnly [.leftPanel, .rightPanel, .queueA, .queueB] s s.blackOut.emptyIfBarred :=
  s.blackOut_changes.step (State.emptyIfBarred_changes _) (by decide) (by decide)

theorem State.enterLost_enters (s : State) : EntersLost s s.enterLost s.link.counters := by
  have hdark := State.darkened_changes s.markedLost
  have habandoned := State.abandonFilling_changes s.markedLost.blackOut.emptyIfBarred
  have hlink : s.enterLost.link = s.markedLost.link := (habandoned.link_eq (by decide)).trans (hdark.link_eq (by decide))
  have hframes : s.markedLost.blackOut.emptyIfBarred.frames = s.frames := hdark.frames_eq (by decide)
  obtain ⟨hleft, hright, hA, hB⟩ := State.darkAndSilent_of_barred (s := s.markedLost) (State.soundBarred_of_not_up nofun)
  refine ⟨?_, ⟨?_, ?_, ?_, ?_⟩, ?_⟩
  · rw [hlink]
    exact ⟨rfl, rfl, rfl, rfl, rfl⟩
  · exact (habandoned .leftPanel (by decide)).trans hleft
  · exact (habandoned .rightPanel (by decide)).trans hright
  · exact (habandoned .queueA (by decide)).trans hA
  · exact (habandoned .queueB (by decide)).trans hB
  · have hfilling := State.abandonFilling_emptied s.markedLost.blackOut.emptyIfBarred
    rw [FillingEmptied, hframes, State.slotIn_congr (congrArg (·.slots) hframes)] at hfilling
    exact hfilling

theorem State.enterLost_raised (s : State) : EventsRaised s.abandonMarks s s.enterLost := by
  have hdark := State.darkened_changes s.markedLost
  have hframes : s.markedLost.blackOut.emptyIfBarred.frames = s.frames := hdark.frames_eq (by decide)
  have hraised := State.abandonFilling_raised s.markedLost.blackOut.emptyIfBarred
  have hmarks : s.markedLost.blackOut.emptyIfBarred.abandonMarks = s.abandonMarks := by
    rw [State.abandonMarks, State.slotIn_congr (congrArg (·.slots) hframes), State.abandonMarks]
  rw [hmarks] at hraised
  exact hraised.congr (hdark.events_eq (by decide)).symm rfl

end Sys2Proof.Machine
end

section
namespace Sys2Proof.Machine

/-! ### Discarded cells (R116, R122, log 5) -/

/-- An event that finds nothing to serve acts on the state as it is. -/
theorem State.inTurn_of_served {s : State} (hserved : s.served) (f : State → State) : s.inTurn f = .next (f s) :=
  State.inTurn_of_not_servable f s (State.servable_of_served hserved)

/-- An extent that ends inside the header fails the header check (log 5). -/
theorem receiveBytes_of_short {framed : List Byte} (h : framed.length < 8) : receiveBytes framed = .error .badHeader := by
  unfold receiveBytes
  split
  next =>
    simp only [List.length_cons] at h
    omega
  next => rfl

section
variable {s : State} {framed : List Byte} {d : Discard}

theorem State.discardFramed_of_some (hreceiving : s.receiving = true) (hd : s.discardOf framed = some d) :
    s.discardFramed framed = s.discardCell d := by
  rw [State.discardFramed, if_pos hreceiving, hd]

theorem exec_cellDiscarded (hserved : s.served) (framed : List Byte) :
    exec (.cellDiscarded framed) s = .next (s.discardFramed framed) := State.inTurn_of_served hserved _

/-- A discard's counter raised, and CELL_ERRORS (R122). -/
def State.countDiscarded (d : Discard) (s : State) : State :=
  (s.setLink { s.link with counters := s.link.counters.countDiscard d }).raise .cellErrors

theorem State.countDiscarded_changes (d : Discard) (s : State) : ChangesOnly [.counters, .raised, .notice] s (s.countDiscarded d) :=
  (s.setCounters_changes _).step (State.raise_changes _ _) (by decide) (by decide)

theorem State.countDiscarded_raised (d : Discard) (s : State) : EventsRaised EventKind.cellErrors.mark s (s.countDiscarded d) :=
  (EventsRaised.raise .cellErrors _).congr rfl rfl

/-- A discard of any other kind follows a good header. -/
theorem State.discardCell_of_good (hd : d ≠ .badHeader) : s.discardCell d = s.goodHeader.countDiscarded d := by
  rw [State.discardCell, if_neg hd]
  rfl

theorem State.discardCell_badHeader (s : State) : s.discardCell .badHeader = s.badHeader.countDiscarded .badHeader := rfl

/-- A bad header ends a run of good ones (R118, R120). -/
theorem State.badHeader_of_run (h : s.link.state = .training ∨ s.link.state = .lost) :
    s.badHeader = s.setLink { s.link with goodRun := 0 } := by
  rcases h with h | h <;> simp only [State.badHeader, h]

theorem State.badHeader_of_up (h : s.link.state = .up) (hrun : s.link.badRun < 3) :
    s.badHeader = s.setLink { s.link with badRun := s.link.badRun + 1 } := by
  simp only [State.badHeader, h, if_neg (not_le.2 hrun)]

theorem State.badHeader_of_fourth (h : s.link.state = .up) (hrun : 3 ≤ s.link.badRun) : s.badHeader = s.enterLost := by
  simp only [State.badHeader, h, if_pos hrun]

/-- A discard counted after the entry to LOST. -/
theorem EntersLost.countDiscarded {t : State} {c : LinkCounters} (h : EntersLost s t c) :
    EntersLost s (t.countDiscarded .badHeader) { c with badHeader := c.badHeader + 1 } := by
  obtain ⟨⟨hstate, hgood, hbad, hhold, hcounters⟩, hdark, hfilling⟩ := h
  refine ⟨⟨hstate, hgood, hbad, hhold, ?_⟩, hdark, hfilling⟩
  exact congrArg (LinkCounters.countDiscard .badHeader) hcounters

end

end Sys2Proof.Machine

open Sys2Proof Sys2Proof.Machine

/-- Settles O20: a FILL is its good header, a discarded cell its header and its count. -/
theorem receiverCountsHeaders : Obligations.ReceiverCountsHeaders := by
  refine ⟨fun i s hserved hreceiving => ?fill, fun i s hserved hidle => ?idle, fun framed s d hserved hreceiving hd hgood => ?good,
    fun framed s hserved hreceiving hd => ?bad, fun framed s hshort => ?short⟩
  case fill =>
    refine ⟨_, s.headerCounted, exec_fill hserved hreceiving i, s.headerCounted_reads, s.headerCounted_raised,
      s.headerCounted_changes, fun hopens => ?_, fun hstays => ?_⟩
    · have hmserved : s.headerCounted.served := by
        rw [State.served, Mgmt.fill, s.headerCounted_changes .requests (by decide), s.headerCounted_changes .answers (by decide),
          s.headerCounted_changes .deferred (by decide)]
        exact hserved
      rw [s.goodHeader_eq, if_pos hopens]
      exact State.inTurn_of_served hmserved State.cellBoundary
    · rw [s.goodHeader_eq, hstays]
      rfl
  case idle => exact (State.inTurn_of_served hserved _).trans (congrArg _ (if_neg (by simp [hidle])))
  case good =>
    have hexec := exec_cellDiscarded hserved framed
    rw [State.discardFramed_of_some hreceiving hd, State.discardCell_of_good hgood] at hexec
    refine ⟨_, _, hexec, exec_fill hserved hreceiving 0, ?_, s.goodHeader.countDiscarded_raised d, s.goodHeader.countDiscarded_changes d⟩
    cases d with
    | badHeader => exact absurd rfl hgood
    | _ => rfl
  case bad =>
    have hexec := exec_cellDiscarded hserved framed
    rw [State.discardFramed_of_some hreceiving hd, State.discardCell_badHeader] at hexec
    have hcounted := State.countDiscarded_raised .badHeader s.badHeader
    have hchanges := State.countDiscarded_changes .badHeader s.badHeader
    refine ⟨_, hexec, fun hrun => ?_, fun hup hrun => ?_, fun hup hrun => ?_⟩
    · rw [State.badHeader_of_run hrun] at hcounted hchanges ⊢
      exact ⟨⟨rfl, rfl, rfl, rfl, rfl⟩, hcounted.congr rfl rfl,
        (s.setRuns_changes _ _ _ _).step hchanges (by decide) (by decide)⟩
    · rw [State.badHeader_of_up hup hrun] at hcounted hchanges ⊢
      exact ⟨⟨hup, rfl, rfl, rfl, rfl⟩, hcounted.congr rfl rfl,
        (s.setRuns_changes _ _ _ _).step hchanges (by decide) (by decide)⟩
    · rw [State.badHeader_of_fourth hup hrun] at hcounted hchanges ⊢
      have hlost := s.enterLost_changes
      exact ⟨s.enterLost_enters.countDiscarded, s.enterLost_raised.trans hcounted (hlost.enabled_eq (by decide))
        (hlost.gate_eq (by decide)) (hchanges.enabled_eq (by decide)) (hchanges.gate_eq (by decide)),
        hlost.step hchanges (by decide) (by decide)⟩
  case short => rw [State.discardOf, receiveBytes_of_short hshort]
end

section
namespace Sys2Proof.Machine

/-! ### The recovered clock (R117, R118, R120) -/

/-- The two lane inputs set, the rest of the link kept. -/
theorem State.setLane_changes (present : Bool) (loss : Option Nat) (s : State) :
    ChangesOnly [.lane] s (s.setLink { s.link with clockPresent := present, clockLoss := loss }) := by
  intro p hp
  cases p <;> simp_all [Part.same]

section
variable {s : State}

theorem State.clockStops_of_present (h : s.link.clockPresent = true) : s.clockStops [] =
    s.setLink { s.link with clockPresent := false, clockLoss := some 0 } := if_pos h

theorem State.clockStops_of_cut (h : s.link.clockPresent = true) {cut : List Byte} (hcut : cut ≠ []) : s.clockStops cut =
    (s.discardFramed cut).setLink { (s.discardFramed cut).link with clockPresent := false, clockLoss := some 0 } := by
  have hbegun : ¬ cut.isEmpty = true := by simpa using hcut
  rw [State.clockStops, if_pos h]
  dsimp only
  rw [if_neg hbegun]

theorem State.clockReturns_of_down (h : s.link.clockPresent = false) (hdown : s.link.state = .down) : s.clockReturns =
    (s.setLink { s.link with clockPresent := true, clockLoss := none }).setLink
      { s.link with state := .training, goodRun := 0, clockPresent := true, clockLoss := none } := by
  simp [State.clockReturns, h, hdown, State.setLink]

theorem State.clockReturns_of_not_down (h : s.link.clockPresent = false) (hstate : s.link.state ≠ .down) :
    s.clockReturns = s.setLink { s.link with clockPresent := true, clockLoss := none } := by
  simp [State.clockReturns, h, hstate]

/-- The clock-loss timer has run on from `n` to its end (R117, log 10). -/
def State.lossCounted (n : Nat) (s : State) : State :=
  (s.elapse (20 - n)).setLink { (s.elapse (20 - n)).link with clockLoss := none }

theorem State.lossCounted_changes (n : Nat) (s : State) : ChangesOnly [.clock, .lane] s (s.lossCounted n) :=
  (s.elapse_changes _).step (State.setLane_changes _ _ _) (by decide) (by decide)

/-- What the clock-loss expiry makes of the link (Table 7-1). -/
def State.clockLost (s : State) : State :=
  match s.link.state with
  | .down => s
  | .training => s.setLink { s.link with state := .down, goodRun := 0 }
  | .up => s.enterLost
  | .lost => s.setLink { s.link with goodRun := 0 }

theorem State.clockLossExpires_eq {n : Nat} (h : s.link.clockLoss = some n) : s.clockLossExpires = (s.lossCounted n).clockLost := by
  unfold State.clockLossExpires
  rw [h]
  rfl

theorem State.clockLost_of_down (h : s.link.state = .down) : s.clockLost = s := by simp only [State.clockLost, h]

theorem State.clockLost_of_training (h : s.link.state = .training) :
    s.clockLost = s.setLink { s.link with state := .down, goodRun := 0 } := by simp only [State.clockLost, h]

theorem State.clockLost_of_lost (h : s.link.state = .lost) : s.clockLost = s.setLink { s.link with goodRun := 0 } := by
  simp only [State.clockLost, h]

theorem State.clockLost_of_up (h : s.link.state = .up) : s.clockLost = s.enterLost := by simp only [State.clockLost, h]

theorem State.clockLost_changes (s : State) : ChangesOnly lostParts s s.clockLost := by
  unfold State.clockLost
  split
  · exact .refl _ s
  · exact (s.setRuns_changes _ _ _ _).mono (by decide)
  · exact s.enterLost_changes
  · exact (s.setRuns_changes _ _ _ _).mono (by decide)

/-- What follows the timer's end leaves the clock and the lane inputs. -/
theorem State.lossCounted_step {n : Nat} {P : List Part} {t : State} (h : ChangesOnly P (s.lossCounted n) t) (hclock : Part.clock ∉ P)
    (hlane : Part.lane ∉ P) : t.clock = (s.elapse (20 - n)).clock ∧ t.link.clockLoss = none ∧
      t.link.clockPresent = s.link.clockPresent := by
  obtain ⟨hpresent, hloss⟩ := h .lane hlane
  exact ⟨h .clock hclock, hloss, hpresent⟩

end

end Sys2Proof.Machine

open Sys2Proof Sys2Proof.Machine

/-- Settles O18: each input's change is a change of the lane, and the expiry goes by the link's state. -/
theorem recoveredClock : Obligations.RecoveredClock := by
  refine ⟨fun s hserved hpresent => ?absent, fun s cut hserved hcut hreceiving => ?cut, fun s hserved habsent => ?returns,
    fun s n hserved hloss => ?expires⟩
  case absent =>
    refine ⟨_, State.inTurn_of_served hserved _, ?_⟩
    rw [State.clockStops_of_present hpresent]
    exact ⟨rfl, rfl, s.setLane_changes _ _⟩
  case cut =>
    have hpresent : s.link.clockPresent = true := by
      obtain ⟨-, hpresent⟩ := Bool.and_eq_true_iff.1 hreceiving
      exact hpresent
    refine ⟨_, _, State.inTurn_of_served hserved _, exec_cellDiscarded hserved cut, ?_⟩
    rw [State.clockStops_of_cut hpresent hcut]
    exact ⟨rfl, rfl, State.setLane_changes _ _ _⟩
  case returns =>
    refine ⟨_, State.inTurn_of_served hserved _, ?_⟩
    by_cases hdown : s.link.state = .down
    · rw [State.clockReturns_of_down habsent hdown]
      refine ⟨rfl, rfl, fun _ => ⟨⟨rfl, rfl, rfl, rfl, rfl⟩, ?_⟩, fun h => absurd hdown h⟩
      exact (s.setLane_changes true none).step (State.setRuns_changes .training 0 s.link.badRun s.link.hold _)
        (by decide) (by decide)
    · rw [State.clockReturns_of_not_down habsent hdown]
      exact ⟨rfl, rfl, fun h => absurd h hdown, fun _ => s.setLane_changes _ _⟩
  case expires =>
    have hcounted := s.lossCounted_changes n
    have hexec : exec .clockLossExpiry s = .next (s.lossCounted n).clockLost :=
      (State.inTurn_of_served hserved _).trans (congrArg _ (State.clockLossExpires_eq hloss))
    refine ⟨_, hexec, ?_⟩
    cases hstate : s.link.state with
    | down =>
      rw [State.clockLost_of_down (s := s.lossCounted n) hstate]
      exact ⟨rfl, rfl, rfl, fun _ => hcounted, nofun, nofun, nofun⟩
    | training =>
      rw [State.clockLost_of_training (s := s.lossCounted n) hstate]
      exact ⟨rfl, rfl, rfl, nofun, fun _ => ⟨⟨rfl, rfl, rfl, rfl, rfl⟩,
        hcounted.step (State.setRuns_changes _ _ _ _ _) (by decide) (by decide)⟩, nofun, nofun⟩
    | lost =>
      rw [State.clockLost_of_lost (s := s.lossCounted n) hstate]
      exact ⟨rfl, rfl, rfl, nofun, nofun, fun _ => ⟨⟨hstate, rfl, rfl, rfl, rfl⟩,
        hcounted.step (State.setRuns_changes _ _ _ _ _) (by decide) (by decide)⟩, nofun⟩
    | up =>
      rw [State.clockLost_of_up (s := s.lossCounted n) hstate]
      have hlost := State.enterLost_changes (s.lossCounted n)
      obtain ⟨hclock, hstopped, hpresent⟩ := State.lossCounted_step hlost (by decide) (by decide)
      exact ⟨hclock, hstopped, hpresent, nofun, nofun, nofun, fun _ => ⟨(s.lossCounted n).enterLost_enters,
        (s.lossCounted n).enterLost_raised.congr rfl rfl, hcounted.step hlost (by decide) (by decide)⟩⟩
end

section
namespace Sys2Proof.Machine

/-! ### What no command but a power-on reset undoes (R129, R131) -/

/-- A hold expiry counted (R120, R124). -/
def State.holdCounted (s : State) : State :=
  s.setLink { s.link with counters := { s.link.counters with holdExpiries := s.link.counters.holdExpiries + 1 } }

/-- The waiting commands stand, and FALLBACK and its flag last. -/
structure Steady (s t : State) : Prop where
  pending : t.pending = s.pending
  source : s.clock.source = .fallback → t.clock.source = .fallback
  flag : s.cause.fallback = true → t.cause.fallback = true

section
variable {s t u : State}

theorem Steady.refl (s : State) : Steady s s := ⟨rfl, id, id⟩

theorem Steady.trans (h : Steady s t) (k : Steady t u) : Steady s u :=
  ⟨k.pending.trans h.pending, k.source ∘ h.source, k.flag ∘ h.flag⟩

theorem Steady.of_eq (hpending : t.pending = s.pending) (hclock : t.clock.source = s.clock.source)
    (hcause : t.cause.fallback = s.cause.fallback) : Steady s t := ⟨hpending, hclock.trans, hcause.trans⟩

/-- A change within parts that hold none of the three. -/
theorem ChangesOnly.steady {P : List Part} (h : ChangesOnly P s t) (hP : ∀ p ∈ [Part.pending, .clock, .cause], p ∉ P) : Steady s t :=
  .of_eq (h .pending (hP _ (by simp))) (congrArg _ (h .clock (hP _ (by simp)))) (congrArg _ (h .cause (hP _ (by simp))))

theorem Steady.timed {f : State → State} (due : Option Time) (hf : ∀ u, Steady u (f u)) (s : State) : Steady s (s.timed due f) := by
  unfold State.timed
  split
  next d =>
    split
    · exact (Steady.of_eq (s.runTo_pending d) (s.runTo_clock_source d) (congrArg _ (s.runTo_cause d))).trans (hf _)
    · exact .refl s
  next => exact .refl s

theorem Steady.timedWithin {P : List Part} {f : State → State} (hf : ∀ u, ChangesOnly P u (f u))
    (hP : ∀ p ∈ [Part.pending, .clock, .cause], p ∉ P) (due : Option Time) (s : State) : Steady s (s.timed due f) :=
  .timed due (fun u => (hf u).steady hP) s

theorem Steady.whenReceiving {f : State → State} (hf : Steady s (f s)) : Steady s (s.whenReceiving f) := by
  unfold State.whenReceiving
  split
  · exact hf
  · exact .refl s

theorem Steady.arrive {P : List Part} {i : Fin 32} {admits : StreamEntry → Bool} {deliver : StreamEntry → State → Bool × State}
    (hdeliver : ∀ e u, ChangesOnly P u (deliver e u).2)
    (hP : ∀ p ∈ [Part.pending, .clock, .cause], p ∉ headerParts ++ [.streams] ++ P) : Steady s (s.arrive i admits deliver) :=
  (s.arrive_changes i admits deliver hdeliver).steady hP

/-- A cell that its length or its operands turn away as a runt, and is else taken. -/
theorem Steady.cell {fits : State → Bool} {f : State → State} (hf : Steady s (f s)) :
    Steady s (s.whenReceiving fun s => if fits s then f s else s.discardCell .runt) := by
  refine .whenReceiving ?_
  split
  · exact hf
  · exact (s.discardCell_changes .runt).steady (by decide)

theorem Steady.tetherReset (s : State) : Steady s s.tetherReset := by
  apply Steady.of_eq <;> simp [State.tetherReset]

theorem Steady.reset (i : Fin 32) (s : State) : Steady s (State.whenReceiving (fun s =>
    let s := s.arrive i (fun _ => i == 0) fun _ s => (true, s)
    if i = 0 then s.tetherReset else s) s) := by
  have harrives : Steady s (s.arrive i (fun _ => i == 0) fun _ s => (true, s)) := .arrive (P := []) (fun _ u => .refl _ u) (by decide)
  refine .whenReceiving ?_
  dsimp only
  split
  · exact harrives.trans (.tetherReset _)
  · exact harrives

theorem Steady.holdExpires (s : State) : Steady s s.holdExpires := by
  have hstopped := ((s.setCounters_changes _).steady (by decide)).trans ((State.stopGroup_changes .fast s.holdCounted).steady (by decide))
  exact ⟨hstopped.pending, hstopped.source, hstopped.flag⟩

theorem Steady.crystalStops (s : State) : Steady s s.crystalStops := by
  unfold State.crystalStops
  split
  · exact .of_eq rfl rfl rfl
  · exact .refl s

theorem Steady.crystalLossExpires (s : State) : Steady s s.crystalLossExpires := by
  unfold State.crystalLossExpires
  split
  · exact .refl s
  · dsimp only
    refine Steady.trans ?_ ((State.emptyIfBarred_changes _).steady (by decide))
    exact ⟨rfl, fun _ => rfl, fun _ => rfl⟩

end

/-- No service changes the waiting commands, the clock, the Cause record, or, by its effect, the request queue. -/
theorem serviceParts_excludes {c : Instr} {act : Request → State → Verdict} (hact : serviceAct c = some act) :
    ∀ p ∈ [Part.pending, .clock, .cause, .requests], p ∉ serviceParts c := by
  cases c <;> cases hact <;> decide

theorem Steady.service {c : Instr} {act : Request → State → Verdict} (hact : serviceAct c = some act) (s : State) :
    Steady s (s.serve c act) := by
  have hparts : ∀ p ∈ [Part.pending, .clock, .cause], p ∉ serviceParts c := fun p hp =>
    serviceParts_excludes hact p (List.mem_append_left [Part.requests] hp)
  exact State.serve_keeps (P := Steady s) (fun u m hu => ⟨hu.pending, hu.source, hu.flag⟩)
    (fun r u hu => (serviceAct_changes hact r u).mono fun _ ht => hu.trans (ht.steady hparts)) (.refl s)

theorem Steady.caughtUp (s : State) : Steady s s.caughtUp :=
  State.caughtUp_keeps (P := Steady s) (fun _ _ hact _ hu => hu.trans (.service hact _)) (.refl s)

/-- Every command but a power-on reset. -/
theorem Steady.exec {c : Instr} {s t : State} (hc : c ≠ .powerOnReset) (ht : exec c s = .next t) : Steady s t := by
  have hturn : ∀ {f : State → State}, s.inTurn f = .next t → (∀ u, Steady u (f u)) → Steady s t := fun ht hf =>
    Host.Outcome.next.inj ht ▸ (Steady.caughtUp s).trans (hf _)
  have hchanges : ∀ {P : List Part} {f : State → State}, s.inTurn f = .next t → (∀ u, ChangesOnly P u (f u)) →
      (∀ p ∈ [Part.pending, .clock, .cause], p ∉ P) → Steady s t := fun ht hf hP => hturn ht fun u => (hf u).steady hP
  cases hact : serviceAct c with
  | some act => exact Host.Outcome.next.inj ((exec_of_serviceAct hact s).symm.trans ht) ▸ .service hact s
  | none =>
    cases c
    all_goals simp only [serviceAct, reduceCtorEq] at hact
    case powerOnReset => exact absurd rfl hc
    case reset i => exact hturn ht (.reset i)
    case holdExpiry => exact hturn ht fun u => .timed _ .holdExpires u
    case clockAbsent cut => exact hchanges ht (State.clockStops_changes cut) (by decide)
    case clockReturn => exact hchanges ht State.clockReturns_changes (by decide)
    case clockLossExpiry =>
      refine hturn ht fun u => ?_
      cases hloss : u.link.clockLoss with
      | none => simp only [State.clockLossExpires, hloss, Steady.refl]
      | some n =>
        rw [State.clockLossExpires_eq hloss]
        have hcounted : Steady u (u.lossCounted n) := .of_eq rfl rfl rfl
        exact hcounted.trans ((State.clockLost_changes _).steady (by decide))
    case crystalAbsent => exact hturn ht .crystalStops
    case crystalReturn => exact hturn ht fun _ => .of_eq rfl rfl rfl
    case crystalLossExpiry => exact hturn ht .crystalLossExpires
    case cellDiscarded framed => exact hchanges ht (State.discardFramed_changes framed) (by decide)
    case fill => exact hturn ht fun u => .whenReceiving (u.goodHeader_changes.steady (by decide))
    case picOpen => exact hturn ht fun _ => .whenReceiving (.arrive (fun _ u => u.openFrame_changes _ _ _) (by decide))
    case picBand => exact hturn ht fun _ => .cell (.arrive (fun _ u => u.acceptBand_changes _ _ _ _) (by decide))
    case picClose => exact hturn ht fun _ => .whenReceiving (.arrive (fun _ u => u.closeFrame_changes _) (by decide))
    case bandWriteComplete i => exact hchanges ht (State.completeWrite_changes i) (by decide)
    case sound => exact hturn ht fun _ => .cell (.arrive (fun _ u => u.takeSound_changes _ _) (by decide))
    case ask => exact hturn ht fun _ => .cell (.arrive (fun _ u => u.takeAsk_changes _) (by decide))
    case scanTrigger g => exact hturn ht fun _ => .timedWithin (State.timerTrigger_changes g) (by decide) _ _
    case burstComplete raw => exact hturn ht fun _ => .timedWithin (State.burstDone_changes raw) (by decide) _ _
    case conversionComplete raw => exact hturn ht fun _ => .timedWithin (State.conversionDone_changes raw) (by decide) _ _
    case ageExpiry => exact hturn ht fun _ => .timedWithin State.ageHead_changes (by decide) _ _
    case frameLatch => exact hturn ht fun _ => .timedWithin State.frameLatch_changes (by decide) _ _
    case panelReady e => exact hturn ht fun _ => .timedWithin (State.panelOn_changes e) (by decide) _ _
    case powerDownComplete e => exact hturn ht fun _ => .timedWithin (State.panelDown_changes e) (by decide) _ _
    case outputTick => exact hturn ht fun _ => .timedWithin State.outputTick_changes (by decide) _ _
    case slipCheck =>
      refine hturn (f := fun u => if u.sound.slipDue then u.slipCheck else u) ht fun u => ?_
      split
      · exact u.slipCheck_changes.steady (by decide)
      · exact .refl u
    case microphoneSample x => exact hturn ht fun _ => .timedWithin (State.microphone_changes x) (by decide) _ _
    case stanceCheck => exact hturn ht fun _ => .timedWithin State.stanceCheck_changes (by decide) _ _
    case cellBoundary => exact hchanges ht State.cellBoundary_changes (by decide)

end Sys2Proof.Machine
end

section
namespace Sys2Proof.Machine

/-! ### The crystal (R72, R93, R128, R129, R131) -/

theorem State.setClock_changes (c : Clock) (s : State) : ChangesOnly [.clock] s { s with clock := c } := by
  intro p hp
  cases p <;> simp_all [Part.same]

/-- The crystal watch has run on from `n` to its end, and the clock source is FALLBACK (R128, R129, log 10). -/
def State.fallen (n : Nat) (s : State) : State :=
  ({ s.elapse (50 - n) with
    clock := { (s.elapse (50 - n)).clock with source := .fallback, watch := none }
    cause := { s.cause with fallback := true } }).raise .clockFallback

theorem State.fallen_changes (n : Nat) (s : State) : ChangesOnly [.clock, .lane, .cause, .raised, .notice] s (s.fallen n) := by
  intro p hp
  cases p <;> simp_all [Part.same, State.fallen]

theorem State.crystalLossExpires_eq {n : Nat} {s : State} (h : s.clock.watch = some n) :
    s.crystalLossExpires = (s.fallen n).blackOut.emptyIfBarred := by
  unfold State.crystalLossExpires
  rw [h]
  rfl

end Sys2Proof.Machine

open Sys2Proof Sys2Proof.Machine

/-- Settles O19: the watch is a change of the clock, its expiry darkens and silences, and no command undoes FALLBACK. -/
theorem crystalWatch : Obligations.CrystalWatch := by
  refine ⟨fun s hserved hpresent => ?absent, fun s hserved => ?returns, fun s n hserved hwatch => ?expires,
    fun c s hfallback hc t hexec => ?lasts⟩
  case absent => exact ⟨_, (State.inTurn_of_served hserved _).trans (congrArg _ (if_pos hpresent)), rfl, s.setClock_changes _⟩
  case returns => exact ⟨_, State.inTurn_of_served hserved _, rfl, s.setClock_changes _⟩
  case expires =>
    have hfallen := s.fallen_changes n
    have hdark := State.darkened_changes (s.fallen n)
    have hlink : (s.fallen n).blackOut.emptyIfBarred.link = (s.elapse (50 - n)).link := hdark.link_eq (by decide)
    refine ⟨_, (State.inTurn_of_served hserved _).trans (congrArg _ (State.crystalLossExpires_eq hwatch)), hdark.clock_eq (by decide),
      hdark .cause (by decide), ?_, ?_, State.darkAndSilent_of_barred (s := s.fallen n) (State.soundBarred_of_fallback rfl),
      (EventsRaised.raise .clockFallback _).congr rfl (hdark.events_eq (by decide)), hfallen.step hdark (by decide) (by decide)⟩
    · rw [hlink]
      rfl
    · rw [hlink]
  case lasts =>
    have hsteady := Steady.exec hc hexec
    exact ⟨hsteady.source hfallback, hsteady.flag⟩
end

section
namespace Sys2Proof.Machine

/-! ### The Management Unit's turn (R142 to R144, log 6) -/

section
variable {s : State} {r : Request} {rest : List Request}

theorem State.servable_iff : s.servable = true ↔ ∃ r rest, s.oldest r rest := by
  rw [State.servable, Bool.and_eq_true, decide_eq_true_eq]
  cases hrequests : s.mgmt.requests with
  | nil => simp [State.oldest, hrequests]
  | cons r rest => simp [State.oldest, hrequests]

theorem State.served_of_not_servable (h : s.servable = false) : s.served := by
  rw [State.servable, Bool.and_eq_false_iff, Bool.not_eq_false', List.isEmpty_iff, decide_eq_false_iff_not, not_lt] at h
  exact h

theorem State.head_of_oldest (h : s.oldest r rest) : s.mgmt.requests.head? = some r := by
  obtain ⟨hrequests, -⟩ := h
  rw [hrequests, List.head?_cons]

/-- What becomes of a request leaves the request queue to a verdict that leaves it. -/
theorem State.conclude_requests {u : State} {v : Verdict} (hv : v.Keeps fun t => t.mgmt.requests = rest) (hu : u.mgmt.requests = rest) :
    (u.conclude r v).mgmt.requests = rest := by
  cases v with
  | refused => exact hu
  | busy => exact hu
  | done _ t => exact hv
  | deferred t => exact hv

theorem State.judgeRequest_requests {c : Instr} {act : Request → State → Verdict} (hact : serviceAct c = some act) {u : State}
    (hu : u.mgmt.requests = rest) : (u.judgeRequest act r).Keeps fun t => t.mgmt.requests = rest := by
  unfold State.judgeRequest
  split
  · exact (serviceAct_changes hact r u).mono fun t ht => (ht .requests (serviceParts_excludes hact _ (by decide))).trans hu
  · trivial

/-- The service of the oldest request takes it, and no other, from the queue. -/
theorem State.serveOldest_requests (h : s.oldest r rest) : s.serveOldest.mgmt.requests = rest := by
  obtain ⟨act, hact⟩ := Option.isSome_iff_exists.1 r.serviceAct_isSome
  obtain ⟨hrequests, hfill⟩ := h
  have hserve : s.serve r.service act = (s.dequeued rest).conclude r ((s.dequeued rest).judgeRequest act r) := by
    rw [State.serve, hrequests]
    exact if_pos ⟨hfill, rfl⟩
  rw [State.serveOldest_eq (by rw [hrequests, List.head?_cons]) hact, hserve]
  exact State.conclude_requests (State.judgeRequest_requests hact rfl) rfl

theorem State.serveUpTo_servedFrom (n : Nat) (s : State) : ServedFrom s (s.serveUpTo n) := by
  induction n generalizing s with
  | zero => exact .refl s
  | succ n ih =>
    unfold State.serveUpTo
    split
    next hservable =>
      obtain ⟨r, rest, holdest⟩ := State.servable_iff.1 hservable
      exact .serve s _ _ r rest holdest (State.exec_service s r (State.head_of_oldest holdest)) (ih _)
    next => exact .refl s

/-- As many services as there are requests are enough. -/
theorem State.serveUpTo_served {n : Nat} {s : State} (h : s.mgmt.requests.length ≤ n) : (s.serveUpTo n).served := by
  induction n generalizing s with
  | zero => exact .inl (List.length_eq_zero_iff.1 (Nat.le_zero.1 h))
  | succ n ih =>
    unfold State.serveUpTo
    split
    next hservable =>
      obtain ⟨r, rest, holdest⟩ := State.servable_iff.1 hservable
      refine ih ?_
      have ⟨hrequests, _⟩ := holdest
      rw [hrequests] at h
      rw [State.serveOldest_requests holdest]
      exact Nat.le_of_succ_le_succ h
    next hnot => exact State.served_of_not_servable (Bool.eq_false_iff.2 hnot)

theorem State.caughtUp_served (s : State) : s.caughtUp.served := State.serveUpTo_served le_rfl

end

/-- The operation code and the operands of a request that the row of a command serves (Tables 9-1, 9-2). -/
def rowOperation : Instr → Byte × List Byte
  | .readSnapshot => (0x01#8, [0x0B#8])
  | .write => (0x02#8, [])
  | .writeStreams => (0x02#8, [0x00#8])
  | .writeChannels => (0x02#8, [0x01#8])
  | .writeGroups => (0x02#8, [0x02#8])
  | .writePanels => (0x02#8, [0x03#8])
  | .writeScanout => (0x02#8, [0x04#8])
  | .writeAudio => (0x02#8, [0x05#8])
  | .writeReport => (0x02#8, [0x06#8])
  | .writeStances => (0x02#8, [0x07#8])
  | .writeStanceLimits => (0x02#8, [0x08#8])
  | .writeRules => (0x02#8, [0x09#8])
  | .descRead => (0x03#8, [])
  | .eventsClear => (0x10#8, [])
  | .eventsEnable => (0x11#8, [])
  | .eventsDisable => (0x12#8, [])
  | .eventsInject => (0x13#8, [])
  | .gate => (0x14#8, [])
  | .lockLive => (0x15#8, [])
  | .groupStart => (0x20#8, [])
  | .groupStop => (0x21#8, [])
  | .rangeClear => (0x22#8, [])
  | .extremesClear => (0x23#8, [])
  | .stanceOrder => (0x30#8, [])
  | .countersClear => (0x31#8, [])
  | _ => (0x01#8, [])

theorem service_rowOperation {c : Instr} {act : Request → State → Verdict} (hact : serviceAct c = some act) :
    (⟨0, 0, (rowOperation c).1, (rowOperation c).2⟩ : Request).service = c := by
  cases c <;> cases hact <;> rfl

/-- A command that is no request's row has no service. -/
theorem serviceAct_eq_none {c : Instr} (h : ∀ r : Request, r.service ≠ c) : serviceAct c = none :=
  Option.eq_none_iff_forall_ne_some.2 fun _ hact => h _ (service_rowOperation hact)

/-- Every command answers a next state. -/
theorem exec_next (c : Instr) (s : State) : ∃ t, exec c s = .next t := by
  cases c <;> exact ⟨_, rfl⟩

/-- A turn that finds the services made does what it does after them. -/
theorem State.inTurn_caughtUp (f : State → State) (s : State) : s.inTurn f = s.caughtUp.inTurn f :=
  (State.inTurn_of_not_servable f s.caughtUp (State.servable_of_served s.caughtUp_served)).symm

/-- A command that is no service and no power-on reset waits for its turn (R144, log 6). -/
theorem exec_caughtUp {c : Instr} (hc : c ≠ .powerOnReset) (hact : serviceAct c = none) (s : State) : exec c s = exec c s.caughtUp := by
  cases c
  case powerOnReset => exact absurd rfl hc
  all_goals simp only [serviceAct, reduceCtorEq] at hact
  case holdExpiry => exact State.inTurn_caughtUp (fun s => s.timed s.holdDue State.holdExpires) s
  case scanTrigger g => exact State.inTurn_caughtUp (fun s => s.timed (s.scanDue g) (State.timerTrigger g)) s
  case burstComplete raw => exact State.inTurn_caughtUp (fun s => s.timed s.burstDue (State.burstDone raw)) s
  case conversionComplete raw => exact State.inTurn_caughtUp (fun s => s.timed s.conversionDue (State.conversionDone raw)) s
  case ageExpiry => exact State.inTurn_caughtUp (fun s => s.timed s.ageDue State.ageHead) s
  case frameLatch => exact State.inTurn_caughtUp (fun s => s.timed s.scanout.latchDue State.frameLatch) s
  case panelReady e => exact State.inTurn_caughtUp (fun s => s.timed (s.panelReadyDue e) (State.panelOn e)) s
  case powerDownComplete e => exact State.inTurn_caughtUp (fun s => s.timed (s.powerDownDue e) (State.panelDown e)) s
  case outputTick => exact State.inTurn_caughtUp (fun s => s.timed (some s.sound.tick.due) State.outputTick) s
  case slipCheck => exact State.inTurn_caughtUp (fun s => if s.sound.slipDue then s.slipCheck else s) s
  case microphoneSample x => exact State.inTurn_caughtUp (fun s => s.timed (some s.sound.mic.due) (State.microphone x)) s
  case stanceCheck => exact State.inTurn_caughtUp (fun s => s.timed (some s.power.checkDue) State.stanceCheck) s
  all_goals exact State.inTurn_caughtUp _ s

/-- What a command leaves of the waiting commands: all of them. -/
theorem exec_pending {c : Instr} {s t : State} (h : exec c s = .next t) : t.pending = s.pending := by
  by_cases hc : c = .powerOnReset
  · subst hc
    exact Host.Outcome.next.inj h ▸ rfl
  · exact (Steady.exec hc h).pending

/-- On an empty queue of commands the service of a request that can be served comes first (log 1, log 27). -/
theorem step_of_oldest {s : State} {r : Request} {rest : List Request} (hpending : s.pending = []) (h : s.oldest r rest) :
    step s = exec r.service s := by
  have hevent : s.ownEvent = some r.service := by
    rw [State.ownEvent, if_pos (State.servable_iff.2 ⟨r, rest, h⟩), State.head_of_oldest h]
    rfl
  rw [step, hpending]
  dsimp only
  rw [State.ownStep, hevent]

end Sys2Proof.Machine

open Sys2Proof Sys2Proof.Machine

/-- Settles O2: every arm answers a next state; a turn is taken on the state that the services due have made; and a service that can be
made is the first event of the part's own run. -/
theorem everyCommandCompletes : Obligations.EveryCommandCompletes := by
  refine ⟨fun c s => ?completes, fun c s hc hrow => ?turn, fun s r rest hpending holdest => step_of_oldest hpending holdest⟩
  case completes =>
    obtain ⟨t, ht⟩ := exec_next c s
    exact ⟨t, ht, exec_pending ht⟩
  case turn => exact ⟨s.caughtUp, State.serveUpTo_servedFrom _ s, s.caughtUp_served, exec_caughtUp hc (serviceAct_eq_none hrow) s⟩
end

section
namespace Sys2Proof.Machine

/-! ### Slots and writes after a reset (R43) -/

/-- A byte outside the places of the cancelled writes keeps its value. -/
theorem readByte_foldl_forget {writes : List BandWrite} {a : Nat} (h : ∀ w ∈ writes, ¬ (w.place ≤ a ∧ a < w.place + w.rows.length))
    (m : Memory) : Memory.readByte (writes.foldl (fun m w => m.forget w.place w.rows.length) m) a = Memory.readByte m a := by
  induction writes generalizing m with
  | nil => rfl
  | cons w ws ih =>
    obtain ⟨hw, hws⟩ := List.forall_mem_cons.1 h
    rw [List.foldl_cons, ih hws, Memory.readByte_forget, if_neg hw]

theorem SlotsCancelled.of_cancelled {s t : State} (hslots : t.frames.slots = Vector.replicate 3 FrameSlot.emptied)
    (hwrites : t.frames.writes = []) (hdram : t.frames.dram = s.frames.cancelled.dram) : SlotsCancelled s t := by
  refine ⟨fun i => ?_, hwrites, fun a ha => ?_⟩
  · rw [hslots]
    exact Vector.getElem_replicate i.isLt
  · rw [hdram]
    exact readByte_foldl_forget ha _

/-! ### The tether reset (R130 to R132, R138, R166) -/

/-- A kind raised while the gate is closed and nothing is enabled makes no NOTICE (R163). -/
theorem State.raise_of_closed {raised : EventSet} {lock : Bool} {s : State} (h : s.events = ⟨raised, 0, false, lock, false⟩)
    (k : EventKind) : s.raise k = { s with events := ⟨raised ||| k.mark, 0, false, lock, false⟩ } := by
  rw [State.raise, h]
  rfl

theorem State.raiseIf_of_closed {raised : EventSet} {lock : Bool} {s : State} (h : s.events = ⟨raised, 0, false, lock, false⟩)
    (occurred : Bool) (k : EventKind) :
    s.raiseIf occurred k = { s with events := ⟨raised ||| k.markIf occurred, 0, false, lock, false⟩ } := by
  cases occurred with
  | false =>
    have hsame : raised ||| k.markIf false = raised := by simp [EventKind.markIf]
    rw [hsame, ← h]
    rfl
  | true => exact State.raise_of_closed h k

/-- What a tether reset makes of every block, before its events are raised. -/
def State.tetherCleared (s : State) : State :=
  { s with
    link := { s.link with counters := LinkCounters.zero }
    cause := { s.cause with kind := .tether }
    streams := Vector.ofFn defaultStream
    mgmt := Mgmt.emptied
    events := ⟨0#21, 0, false, s.events.lock, false⟩
    frames := { s.frames.cancelled with superseded := 0 }
    scanout := Scanout.default
    sense := Sense.default s.clock.now
    report := Report.default
    pose := Pose.cleared
    sound := s.sound.tetherReset
    power := Power.default s.clock.now
    sender := { s.sender with last := .notice } }

theorem State.tetherReset_eq (s : State) : s.tetherReset = { s.tetherCleared with
    events := ⟨EventKind.resetDone.mark ||| EventKind.clockFallback.markIf (s.clock.source == .fallback), 0, false, s.events.lock,
      false⟩ } := by
  have hdone := State.raise_of_closed (s := s.tetherCleared) rfl .resetDone
  rw [BitVec.zero_or] at hdone
  exact (congrArg (State.raiseIf _ _) hdone).trans (State.raiseIf_of_closed rfl _ _)

/-- A RESET cell on stream 0 is handed on and counted, and the tether reset follows (R138). -/
theorem exec_reset_zero {s : State} (hserved : s.served) (hreceiving : s.receiving = true) :
    exec (.reset 0) s = .next (s.handed.countCell 0 true).tetherReset := State.inTurn_whenReceiving hserved hreceiving _

end Sys2Proof.Machine

open Sys2Proof Sys2Proof.Machine

/-- Settles O16: the tether reset's values, of the state that the good header leaves; elsewhere RESET is a cell that no entry admits. -/
theorem resetCell : Obligations.ResetCell := by
  refine ⟨fun s hserved hreceiving => ?tether, fun i s hserved hi hreceiving => ?counted⟩
  case tether =>
    have hheader := s.goodHeader_changes
    have hclock : s.goodHeader.clock = s.clock := hheader.clock_eq (by decide)
    have hlock : s.goodHeader.events.lock = s.events.lock := hheader .lock (by decide)
    obtain ⟨-, -, htick⟩ := hheader .ticks (by decide)
    have hexec := exec_reset_zero hserved hreceiving
    rw [State.tetherReset_eq] at hexec
    refine ⟨_, _, hexec, exec_fill hserved hreceiving 0, rfl, ?cause, fun i => Vector.getElem_ofFn i.isLt, rfl,
      ?events, .of_cancelled rfl rfl ?dram, rfl, rfl, ?sense, rfl, rfl, rfl, fun k => by cases k <;> rfl, rfl, rfl, htick,
      hheader .microphone (by decide), rfl, rfl, rfl, rfl, ?power, rfl, hclock, hheader .pending (by decide)⟩
    case cause => exact congrArg (fun c : Cause => { c with kind := .tether }) (hheader .cause (by decide))
    case events =>
      rw [← hclock, ← hlock]
      rfl
    case dram => exact congrArg (fun f : FrameStore => f.cancelled.dram) s.goodHeader_frames
    case sense => exact congrArg (fun c : Clock => Sense.default c.now) hclock
    case power => exact congrArg (fun c : Clock => Power.default c.now) hclock
  case counted =>
    have hhanded : s.handedStream (.reset i) = some i := if_neg hi
    obtain ⟨deliver, -, hexec⟩ := exec_handed hserved hreceiving hhanded
    rw [State.arrive_of_barred rfl] at hexec
    have hdelivered := s.barred_delivered i
    exact ⟨_, _, hexec, exec_fill hserved hreceiving 0, hdelivered.counted, hdelivered.handedOn, hdelivered.changes⟩
end

section
namespace Sys2Proof.Machine

/-! ### Work that stays within the Sense Engine (R15, R17) -/

/-- The Sense Engine's state replaced. -/
def State.withSense (x : Sense) (s : State) : State := { s with sense := x }

/-- What a group's stop changes lies in the Sense Engine. -/
theorem State.stopGroup_withSense (g : ScanGroup) (s : State) : ∃ x, s.stopGroup g = s.withSense x := by
  have hgrant : ∀ (h : ScanGroup) (r : Resource) (u : State), ∃ x, u.grantTo h r = u.withSense x := fun h r u => by
    cases h <;> cases r <;> exact ⟨_, rfl⟩
  have harbitrate : ∀ (r : Resource) (u : State), ∃ x, u.arbitrateOne r = u.withSense x := fun r u => by
    unfold State.arbitrateOne
    split
    · exact ⟨_, rfl⟩
    · split
      · exact hgrant _ _ _
      · split
        · exact hgrant _ _ _
        · exact ⟨_, rfl⟩
  have habandon : ∃ x, (s.setGroup g { s.group g with phase := .stopped, pass := none, timer := none }).abandonInFlight g = s.withSense x := by
    cases g <;> exact ⟨_, rfl⟩
  obtain ⟨abandoned, habandon⟩ := habandon
  obtain ⟨port, hport⟩ := harbitrate .port (s.withSense abandoned)
  obtain ⟨converter, hconverter⟩ := harbitrate .converter (s.withSense port)
  refine ⟨converter, ?_⟩
  rw [State.stopGroup, habandon, State.arbitrate, hport]
  exact hconverter

theorem ChangesOnly.setLink {P : List Part} {s t : State} (h : ChangesOnly P s t) (l : Link) :
    ChangesOnly P (s.setLink l) (t.setLink l) := by
  intro p hp
  have := h p hp
  cases p with
  | link | lane => simp [Part.same]
  | counters => rfl
  | _ => exact this

/-- A group's stop has no part in the link. -/
theorem GroupStopped.setLink {g : ScanGroup} {s t : State} (h : GroupStopped g s t) (l : Link) : GroupStopped g (s.setLink l) t := by
  obtain ⟨n, hchanges, hrest⟩ := h
  exact ⟨n.setLink l, hchanges.setLink l, hrest⟩

/-! ### The hold expiry (R120, R130 to R132) -/

/-- What a link-loss reset clears when FAST has stopped, before its event. -/
def State.lossCleared (s : State) : State :=
  { s with
    cause := { s.cause with kind := .linkLoss }
    mgmt := Mgmt.emptied
    frames := s.frames.cancelled
    scanout := { s.scanout with left := s.scanout.left.fed, right := s.scanout.right.fed }
    report := s.report.linkLossReset
    pose := Pose.cleared
    sound := s.sound.linkLossReset
    sender := ⟨.notice, none⟩ }

theorem State.lossCleared_changes (s : State) : ChangesOnly [.cause, .requests, .answers, .deferred, .slots, .writes, .dram, .leftPanel,
    .rightPanel, .sampleQueue, .pose, .queueA, .queueB, .capture, .lastCyclic, .wire] s s.lossCleared := by
  intro p hp
  cases p <;> simp_all [Part.same, State.lossCleared, FrameStore.cancelled, Report.linkLossReset, Sound.linkLossReset]

/-- The link LOST no more: DOWN, or TRAINING when the recovered clock is there (R120). -/
def State.leaveLost (s : State) : State :=
  s.setLink { s.link with
    state := if s.link.clockPresent then .training else .down
    goodRun := 0
    badRun := 0
    hold := none }

theorem State.holdExpires_eq (s : State) :
    s.holdExpires = ((s.holdCounted.stopGroup .fast).lossCleared.raise .resetDone).leaveLost := rfl

theorem State.holdExpires_changes (s : State) : ChangesOnly [.link, .counters, .cause, .requests, .answers, .deferred, .raised, .notice,
    .slots, .writes, .dram, .leftPanel, .rightPanel, .fast, .slow, .port, .converter, .sampleQueue, .pose, .queueA, .queueB, .capture,
    .lastCyclic, .wire] s s.holdExpires := by
  have hstopped := (s.setCounters_changes _).step (State.stopGroup_changes .fast s.holdCounted)
    (R := [.counters, .fast, .slow, .port, .converter]) (by decide) (by decide)
  have hcleared := (State.lossCleared_changes (s.holdCounted.stopGroup .fast)).step (State.raise_changes .resetDone _)
    (R := [.cause, .requests, .answers, .deferred, .slots, .writes, .dram, .leftPanel, .rightPanel, .sampleQueue, .pose, .queueA, .queueB,
      .capture, .lastCyclic, .wire, .raised, .notice]) (by decide) (by decide)
  rw [State.holdExpires_eq]
  exact (hstopped.step hcleared (by decide) (by decide)).step (State.setRuns_changes _ _ _ _ _) (List.Subset.refl _) (by decide)

/-- FAST is stopped, whatever else the expiry clears (R17, R19). -/
theorem State.holdExpires_stopped (s : State) : GroupStopped .fast s s.holdExpires :=
  ((s.holdCounted.stopGroup_stopped .fast).setLink s.link : GroupStopped .fast s (s.holdCounted.stopGroup .fast))

theorem State.holdExpires_raised (s : State) : EventsRaised EventKind.resetDone.mark s s.holdExpires := by
  have hstopped := (State.stopGroup_changes .fast s.holdCounted).events_eq (by decide)
  exact (EventsRaised.raise .resetDone (s.holdCounted.stopGroup .fast).lossCleared).congr hstopped.symm rfl

/-- In LOST, while headset time runs, the expiry comes at its due time. -/
theorem exec_holdExpiry {s : State} (hserved : s.served) (hlost : s.link.state = .lost) (hruns : s.timeRuns = true) {d : Time}
    (hhold : s.link.hold = some d) : exec .holdExpiry s = .next (s.runTo d).holdExpires :=
  State.inTurn_timed (due := State.holdDue) hserved hruns ((if_pos hlost).trans hhold)

end Sys2Proof.Machine

open Sys2Proof Sys2Proof.Machine

/-- Settles O17: FAST's stop works within the Sense Engine, and the rest is the link-loss reset's values. -/
theorem holdExpiryResets : Obligations.HoldExpiryResets := by
  intro s hserved hlost hruns d hhold
  have hexec := exec_holdExpiry hserved hlost hruns hhold
  have hrun := s.runTo_changes d
  have hpresent := s.runTo_link_clockPresent d
  have hcounters := s.runTo_link_counters d
  have hcause := s.runTo_cause d
  have hevents := s.runTo_events d
  have hframes := s.runTo_frames d
  have hscanout := s.runTo_scanout d
  have hreport := s.runTo_report d
  generalize s.runTo d = v at *
  have hchanges := v.holdExpires_changes
  have hraised := v.holdExpires_raised.congr hevents.symm rfl
  have hstopped := v.holdExpires_stopped
  obtain ⟨x, hx⟩ := State.stopGroup_withSense .fast v.holdCounted
  rw [State.holdExpires_eq, hx] at hexec hchanges hraised hstopped
  refine ⟨_, hexec, rfl, ⟨?state, rfl, rfl, rfl, ?counters⟩, hpresent, rfl, ?cause, rfl, hraised, .of_cancelled rfl rfl ?dram, ?superseded,
    ?left, ?right, hstopped, congrArg Report.linkLossReset hreport, rfl, fun k => by cases k <;> rfl, rfl, rfl, rfl, rfl,
    hrun.step hchanges (by decide) (by decide)⟩
  case state => exact congrArg (fun present : Bool => if present then LinkState.training else .down) hpresent
  case counters => exact congrArg (fun c : LinkCounters => { c with holdExpiries := c.holdExpiries + 1 }) hcounters
  case cause => exact congrArg (fun c : Cause => { c with kind := .linkLoss }) hcause
  case dram => exact congrArg (fun f : FrameStore => f.cancelled.dram) hframes
  case superseded => exact congrArg (·.superseded) hframes
  case left => exact congrArg (fun c : Scanout => c.left.fed) hscanout
  case right => exact congrArg (fun c : Scanout => c.right.fed) hscanout
end

section
namespace Sys2Proof.Machine

/-! ### What the checks of a cell catch (R168, R169) -/

/-- A check register's shift loses nothing: its polynomial's top bit says whether the bit shifted out was 1. -/
theorem checkShift_injective {w : Nat} {poly : BitVec w} (hpoly : poly.msb = true) : Function.Injective (checkShift poly) := by
  intro r s h
  have htop : ∀ x : BitVec w, (checkShift poly x).msb = x.getLsbD 0 := fun x => by
    unfold checkShift
    split
    next hbit => simp [hpoly, hbit]
    next hbit => simp [hbit]
  have hlow : r.getLsbD 0 = s.getLsbD 0 := by rw [← htop, ← htop, h]
  have hshift : r >>> 1 = s >>> 1 := by
    unfold checkShift at h
    rw [hlow] at h
    split at h
    · exact (BitVec.xor_left_inj _).1 h
    · exact h
  refine BitVec.eq_of_getLsbD_eq fun i _ => ?_
  cases i with
  | zero => exact hlow
  | succ i =>
    have hbit := congrArg (·.getLsbD i) hshift
    simpa [Nat.add_comm] using hbit

section
variable {w : Nat} {poly : BitVec w} (hpoly : poly.msb = true)
include hpoly

theorem checkByte_injective_left (b : Byte) : Function.Injective fun r => checkByte poly r b := fun _ _ h =>
  (BitVec.xor_left_inj _).1 (((checkShift_injective hpoly).iterate 8) h)

theorem checkByte_injective_right (hw : 8 ≤ w) (r : BitVec w) : Function.Injective (checkByte poly r) := fun a b h => by
  have hwide := (BitVec.xor_right_inj _).1 (((checkShift_injective hpoly).iterate 8) h)
  simpa [BitVec.setWidth_setWidth_of_le, hw] using congrArg (BitVec.setWidth 8) hwide

end

/-- A fold whose step loses nothing tells apart lists that differ in one place. -/
theorem foldl_set_ne {α β : Type} {f : α → β → α} (hleft : ∀ b, Function.Injective fun a => f a b)
    (hright : ∀ a, Function.Injective (f a)) {l : List β} {i : Nat} {b : β} (hi : i < l.length) (hb : l[i]? ≠ some b) (a : α) : (l.set i b).foldl f a ≠ l.foldl f a := by
  have hfold : ∀ l : List β, Function.Injective fun a => l.foldl f a := fun l => by
    induction l with
    | nil => exact fun _ _ h => h
    | cons c l ih => exact fun _ _ h => hleft c (ih h)
  induction l generalizing i a with
  | nil => exact absurd hi (Nat.not_lt_zero _)
  | cons c l ih =>
    cases i with
    | zero => exact fun h => hb (congrArg some (hright a (hfold l h)).symm)
    | succ i => exact ih (Nat.lt_of_succ_lt_succ hi) (by simpa using hb) _

theorem headerCheck_set_ne {l : List Byte} {i : Nat} {b : Byte} (hi : i < l.length) (hb : l[i]? ≠ some b) :
    headerCheck (l.set i b) ≠ headerCheck l := fun h =>
  foldl_set_ne (checkByte_injective_left (by decide)) (checkByte_injective_right (by decide) le_rfl) hi hb _ (BitVec.not_inj.1 h)

theorem payloadCheck_set_ne {l : List Byte} {i : Nat} {b : Byte} (hi : i < l.length) (hb : l[i]? ≠ some b) :
    payloadCheck (l.set i b) ≠ payloadCheck l := fun h =>
  foldl_set_ne (checkByte_injective_left (by decide)) (checkByte_injective_right (by decide) (by decide)) hi hb _ (BitVec.not_inj.1 h)

/-! ### Quantities as bytes -/

theorem ofLe_injective {l m : List Byte} (hlength : l.length = m.length) (h : ofLe l = ofLe m) : l = m := by
  induction l generalizing m with
  | nil => exact (List.length_eq_zero_iff.1 hlength.symm).symm
  | cons a l ih =>
    cases m with
    | nil => cases hlength
    | cons b m =>
      simp only [ofLe] at h
      have hhead : a.toNat = b.toNat := by omega
      have htail : ofLe l = ofLe m := by omega
      rw [BitVec.eq_of_toNat_eq hhead, ih (Nat.succ.inj hlength) htail]

/-- A quantity that `k` bytes hold is read back. -/
theorem ofNat_ofLe_le {w : Nat} (k : Nat) (hw : 2 ^ w ≤ 256 ^ k) (x : BitVec w) : BitVec.ofNat w (ofLe (le k x.toNat)) = x := by
  rw [ofLe_le, Nat.mod_eq_of_lt (x.isLt.trans_le hw), BitVec.ofNat_toNat, BitVec.setWidth_eq]

theorem set_ne_self {α : Type} {l : List α} {i : Nat} {b : α} (hi : i < l.length) (hb : l[i]? ≠ some b) : l.set i b ≠ l := fun h =>
  hb (by rw [← h, List.getElem?_set_self hi])

/-! ### A cell at the receiver (R116, R122, R167 to R169) -/

/-- The first seven bytes of a cell's header. -/
def cellHead (code stream len : Nat) : List Byte := BitVec.ofNat 8 code :: BitVec.ofNat 8 stream :: (le 3 len ++ [0#8, 0#8])

/-- What follows a cell's header. -/
def cellTail (payload : List Byte) : List Byte :=
  if payload.isEmpty then [] else payload ++ le 4 (payloadCheck payload).toNat

theorem cellBytes_eq (code stream : Nat) (payload : List Byte) : cellBytes code stream payload =
    cellHead code stream payload.length ++ [headerCheck (cellHead code stream payload.length)] ++ cellTail payload := rfl

theorem receiveBytes_of_badHeader {head : List Byte} (hlength : head.length = 7) {check : Byte} (h : headerCheck head ≠ check)
    (rest : List Byte) : receiveBytes (head ++ [check] ++ rest) = .error .badHeader := by
  match head, hlength with
  | [_, _, _, _, _, _, _], _ => exact if_pos h

/-- A cell whose header is good and says what follows it, with bytes enough after it: its payload check decides. -/
theorem receiveBytes_of_goodHeader {code len : Nat} {stream : Fin 32} {kind : DownKind} {rest : List Byte}
    (hkind : downKind (BitVec.ofNat 8 code) = some kind) (hlen : len < 2 ^ 24) (hrule : lengthRule kind len = true)
    (hrest : (if len = 0 then 0 else len + 4) ≤ rest.length) :
    receiveBytes (cellHead code stream.val len ++ [headerCheck (cellHead code stream.val len)] ++ rest) =
      if len ≠ 0 ∧ ofLe ((rest.drop len).take 4) ≠ (payloadCheck (rest.take len)).toNat then .error .badPayload
      else (payloadCommand kind stream (rest.take len)).elim (.error .runt) .ok := by
  have hstream : (BitVec.ofNat 8 stream.val).toNat = stream.val := by
    rw [BitVec.toNat_ofNat]
    omega
  have hlength : ofLe [BitVec.ofNat 8 len, BitVec.ofNat 8 (len / 256), BitVec.ofNat 8 (len / 256 / 256)] = len :=
    (ofLe_le 3 len).trans (Nat.mod_eq_of_lt hlen)
  simp only [cellHead, le, List.cons_append, List.nil_append, receiveBytes, ne_eq, not_true_eq_false, if_false, hkind, hstream,
    stream.isLt, dif_pos, or_self, hlength, hrule, Bool.not_true, Bool.false_eq_true, not_lt.2 hrest, Fin.eta]
  cases payloadCommand kind stream (rest.take len) <;> rfl

/-- A cell of a kind that keeps the kind's length rule, and the command that its payload spells. -/
structure CellForm (c : Instr) (code : Nat) (stream : Fin 32) (kind : DownKind) (payload : List Byte) : Prop where
  named : downKind (BitVec.ofNat 8 code) = some kind
  fits : payload.length < 2 ^ 24
  rule : lengthRule kind payload.length = true
  spells : payloadCommand kind stream payload = some c

theorem length_cellTail (payload : List Byte) :
    (cellTail payload).length = if payload.length = 0 then 0 else payload.length + 4 := by
  cases payload with
  | nil => rfl
  | cons => simp [cellTail]

theorem take_cellTail (payload rest : List Byte) : (cellTail payload ++ rest).take payload.length = payload := by
  cases payload with
  | nil => rfl
  | cons a p =>
    rw [cellTail, if_neg (by simp), List.append_assoc]
    exact List.take_left' rfl

/-- The check that stands behind a payload is the payload's (R169). -/
theorem ofLe_payloadCheck (payload : List Byte) : ofLe (le 4 (payloadCheck payload).toNat) = (payloadCheck payload).toNat := by
  rw [ofLe_le]
  exact Nat.mod_eq_of_lt (payloadCheck payload).isLt

theorem drop_cellTail {payload : List Byte} (h : payload ≠ []) (rest : List Byte) :
    ((cellTail payload ++ rest).drop payload.length).take 4 = le 4 (payloadCheck payload).toNat := by
  rw [cellTail, if_neg (by simpa using h), List.append_assoc, List.drop_left' rfl]
  exact take_le_append 4 _ rest

/-- A payload with its check, one byte of the two changed, fails: a changed byte of the payload changes its check, and a changed check is not
the payload's. -/
theorem cellTail_set_caught {payload : List Byte} (hsome : payload ≠ []) {j : Nat} {b : Byte} (hj : j < (cellTail payload).length)
    (hb : (cellTail payload)[j]? ≠ some b) (idle : List Byte) :
    ofLe ((((cellTail payload).set j b ++ idle).drop payload.length).take 4) ≠
      (payloadCheck (((cellTail payload).set j b ++ idle).take payload.length)).toNat := by
  have htail : cellTail payload = payload ++ le 4 (payloadCheck payload).toNat := if_neg (by simpa using hsome)
  rw [htail] at hj hb ⊢
  rcases lt_or_ge j payload.length with hin | hpast
  · rw [List.getElem?_append_left hin] at hb
    rw [List.set_append_left _ _ hin, List.append_assoc, List.drop_left' (List.length_set ..), List.take_left' (List.length_set ..),
      take_le_append, ofLe_payloadCheck]
    exact fun h => payloadCheck_set_ne hin hb (BitVec.eq_of_toNat_eq h.symm)
  · rw [List.getElem?_append_right hpast] at hb
    have hcheck : j - payload.length < (le 4 (payloadCheck payload).toNat).length := by
      rw [List.length_append] at hj
      omega
    rw [List.set_append_right _ _ hpast, List.append_assoc, List.drop_left' rfl, List.take_left' rfl,
      List.take_left' (by rw [List.length_set, length_le])]
    exact fun h => set_ne_self hcheck hb (ofLe_injective (List.length_set ..) (h.trans (ofLe_payloadCheck payload).symm))

/-- A header with one byte changed is a bad header: a changed byte of the seven changes their check, and a changed check is not theirs. -/
theorem header_set_caught {payload : List Byte} {code stream i : Nat} {b : Byte} (hi : i < 8)
    (hb : (cellBytes code stream payload)[i]? ≠ some b) (idle : List Byte) :
    receiveBytes ((cellBytes code stream payload).set i b ++ idle) = .error .badHeader := by
  have hlength : (cellHead code stream payload.length).length = 7 := rfl
  rw [cellBytes_eq, List.append_assoc] at hb ⊢
  rcases Nat.lt_succ_iff_lt_or_eq.1 hi with hin | rfl
  · rw [List.getElem?_append_left hin] at hb
    rw [List.set_append_left _ _ hin, ← List.append_assoc, List.append_assoc]
    exact receiveBytes_of_badHeader (List.length_set ..) (headerCheck_set_ne hin hb) _
  · rw [List.getElem?_append_right (Nat.le_of_eq hlength)] at hb
    rw [List.set_append_right _ _ (Nat.le_of_eq hlength)]
    exact receiveBytes_of_badHeader hlength (fun h => hb (congrArg some h)) _

section
variable {c : Instr} {code : Nat} {stream : Fin 32} {kind : DownKind} {payload : List Byte} (h : CellForm c code stream kind payload)
include h

/-- A cell is received as its command, whatever idle bytes follow it. -/
theorem CellForm.received (idle : List Byte) : receiveBytes (cellBytes code stream.val payload ++ idle) = .ok c := by
  have hpasses : ¬ (payload.length ≠ 0 ∧
      ofLe (((cellTail payload ++ idle).drop payload.length).take 4) ≠ (payloadCheck payload).toNat) := fun ⟨hsome, hwrong⟩ =>
    hwrong (by rw [drop_cellTail (List.ne_nil_of_length_pos (Nat.pos_of_ne_zero hsome)), ofLe_payloadCheck])
  rw [cellBytes_eq, List.append_assoc (_ ++ _), receiveBytes_of_goodHeader h.named h.fits h.rule
    (by rw [List.length_append, length_cellTail]; exact Nat.le_add_right _ _), take_cellTail, if_neg hpasses, h.spells]
  rfl

/-- A cell with a byte past its header changed fails its payload check. -/
theorem CellForm.payload_caught {i : Nat} {b : Byte} (hpast : 8 ≤ i) (hi : i < (cellBytes code stream.val payload).length)
    (hb : (cellBytes code stream.val payload)[i]? ≠ some b) (idle : List Byte) :
    receiveBytes ((cellBytes code stream.val payload).set i b ++ idle) = .error .badPayload := by
  rw [cellBytes_eq] at hi hb ⊢
  rw [List.length_append] at hi
  rw [List.getElem?_append_right hpast] at hb
  have htail : i - 8 < (cellTail payload).length := Nat.sub_lt_left_of_lt_add hpast hi
  have hlong : payload.length ≠ 0 := fun hnone => by
    rw [length_cellTail, if_pos hnone] at htail
    exact Nat.not_lt_zero _ htail
  rw [List.set_append_right _ _ hpast, List.append_assoc, receiveBytes_of_goodHeader h.named h.fits h.rule
    (by rw [List.length_append, List.length_set, length_cellTail]; exact Nat.le_add_right _ _)]
  exact if_pos ⟨hlong, cellTail_set_caught (fun hnone => hlong (congrArg List.length hnone)) htail hb idle⟩

end

/-! ### The commands' cells (Table 11-3, R169 to R171) -/

theorem length_bytesOfPairs (pairs : List (BitVec 24 × BitVec 24)) : (bytesOfPairs pairs).length = 6 * pairs.length := by
  simp [bytesOfPairs, List.length_flatMap, Nat.mul_comm]

/-- The pairs of a SOUND payload are read back. -/
theorem pairsOfBytes_bytesOfPairs (pairs : List (BitVec 24 × BitVec 24)) : pairsOfBytes (bytesOfPairs pairs) = some pairs := by
  induction pairs with
  | nil => rfl
  | cons p pairs ih =>
    obtain ⟨left, right⟩ := p
    have hread : pairsOfBytes (bytesOfPairs ((left, right) :: pairs)) = (pairsOfBytes (bytesOfPairs pairs)).map
        ((BitVec.ofNat 24 (ofLe (le 3 left.toNat)), BitVec.ofNat 24 (ofLe (le 3 right.toNat))) :: ·) := rfl
    rw [hread, ih, ofNat_ofLe_le 3 le_rfl, ofNat_ofLe_le 3 le_rfl]
    rfl

/-- A well-formed command that stands for a cell has a cell of its form. -/
theorem cellForm_of_encodeCell {c : Instr} (hwf : c.wellFormed = true) {bytes : List Byte} (h : encodeCell c = some bytes) :
    ∃ (code : Nat) (stream : Fin 32) (kind : DownKind) (payload : List Byte),
      bytes = cellBytes code stream.val payload ∧ CellForm c code stream kind payload := by
  cases c
  all_goals simp only [encodeCell, reduceCtorEq, Option.some.injEq] at h
  case fill i => exact ⟨_, i, .fill, _, h.symm, rfl, by decide, rfl, rfl⟩
  case reset i => exact ⟨_, i, .reset, _, h.symm, rfl, by decide, rfl, rfl⟩
  case picOpen i f flags time =>
    refine ⟨_, i, .picOpen, _, h.symm, rfl, by simp, by simp [lengthRule], ?_⟩
    have hread : payloadCommand .picOpen i (le 2 f.toNat ++ [flags, 0#8] ++ le 4 time.toNat) =
        some (.picOpen i (BitVec.ofNat 16 (ofLe (le 2 f.toNat))) flags (BitVec.ofNat 32 (ofLe (le 4 time.toNat)))) := rfl
    rw [hread, ofNat_ofLe_le 2 le_rfl, ofNat_ofLe_le 4 le_rfl]
  case picBand i f eye band rows =>
    have hfits : rows.length + 4 < 2 ^ 24 := of_decide_eq_true hwf
    have hlength : (le 2 f.toNat ++ [eye, band] ++ rows).length = rows.length + 4 := by
      simp only [List.length_append, length_le, List.length_cons, List.length_nil]
      omega
    refine ⟨_, i, .picBand, _, h.symm, rfl, hlength ▸ hfits, ?_, ?_⟩
    · rw [hlength]
      exact decide_eq_true (Nat.le_add_left 4 rows.length)
    · have hread : payloadCommand .picBand i (le 2 f.toNat ++ [eye, band] ++ rows) =
          some (.picBand i (BitVec.ofNat 16 (ofLe (le 2 f.toNat))) eye band rows) := rfl
      rw [hread, ofNat_ofLe_le 2 le_rfl]
  case picClose i f =>
    refine ⟨_, i, .picClose, _, h.symm, rfl, by simp, by simp [lengthRule], ?_⟩
    have hread : payloadCommand .picClose i (le 2 f.toNat) = some (.picClose i (BitVec.ofNat 16 (ofLe (le 2 f.toNat)))) := rfl
    rw [hread, ofNat_ofLe_le 2 le_rfl]
  case sound i pairs =>
    have hcount : 1 ≤ pairs.length ∧ pairs.length ≤ 128 := by simpa [Instr.wellFormed, soundPairsFit] using hwf
    have hlength := length_bytesOfPairs pairs
    refine ⟨_, i, .sound, _, h.symm, rfl, by omega, ?_, ?_⟩
    · simp only [lengthRule, hlength, Bool.and_eq_true, beq_iff_eq, decide_eq_true_eq]
      omega
    · simp only [payloadCommand, pairsOfBytes_bytesOfPairs, Option.map_some]
  case ask i tag op operands =>
    have hfits : operands.length + 2 < 2 ^ 24 := of_decide_eq_true hwf
    exact ⟨_, i, .ask, _, h.symm, rfl, hfits, by simp [lengthRule], rfl⟩

end Sys2Proof.Machine

open Sys2Proof Sys2Proof.Machine

/-- Settles O11: a command's cell is of its kind's form, and such a cell is received as its command. -/
theorem cellRoundTrip : Obligations.CellRoundTrip := by
  intro c hwf bytes hbytes idle
  obtain ⟨code, stream, kind, payload, rfl, hform⟩ := cellForm_of_encodeCell hwf hbytes
  exact hform.received idle

/-- Settles O12: one changed byte of the header fails the header check, and one past it the payload check, which lose nothing. -/
theorem singleByteErrorsCaught : Obligations.SingleByteErrorsCaught := by
  intro c hwf bytes hbytes idle i b hi hb
  obtain ⟨code, stream, kind, payload, rfl, hform⟩ := cellForm_of_encodeCell hwf hbytes
  split
  next hheader => exact header_set_caught hheader hb idle
  next hpast => exact hform.payload_caught (not_lt.1 hpast) hi hb idle
end

section
namespace Sys2Proof.Machine

/-! ### An ASK at the request queue (R142) -/

theorem State.takeAsk_of_room {s : State} (h : s.mgmt.requests.length < 8) (r : Request) :
    s.takeAsk r = (true, s.withMgmt { s.mgmt with requests := s.mgmt.requests ++ [r] }) := if_pos h

theorem State.takeAsk_of_full {s : State} (h : 8 ≤ s.mgmt.requests.length) (r : Request) :
    s.takeAsk r = (false, s.raise .requestOverrun) := if_neg (not_lt.2 h)

theorem State.handed_requests (s : State) : s.handed.mgmt.requests = s.mgmt.requests := s.goodHeader_changes .requests (by decide)

end Sys2Proof.Machine

open Sys2Proof Sys2Proof.Machine

/-- Settles O27: an admitted ASK is delivered to the request queue, which takes it while it has room. -/
theorem askJoinsQueue : Obligations.AskJoinsQueue := by
  intro i tag op operands s hserved hreceiving hfits hadmits
  have hexec : exec (.ask i tag op operands) s =
      .next (s.arrive i (admitsKind .ask) fun _ u => u.takeAsk ⟨i, tag, op, operands⟩) :=
    (State.inTurn_whenReceiving hserved hreceiving _).trans (congrArg _ (if_pos hfits))
  rw [State.arrive_of_admitted hadmits] at hexec
  have hdelivered := State.countCell_delivered (s.handed.takeAsk_changes ⟨i, tag, op, operands⟩) (by decide) i
  refine ⟨_, _, hexec, exec_fill hserved hreceiving 0, hdelivered.handedOn, hdelivered.changes, fun hroom => ?room, fun hfull => ?full⟩
  case room =>
    rw [State.takeAsk_of_room (by rwa [State.handed_requests])] at hdelivered ⊢
    exact ⟨congrArg (· ++ [_]) s.handed_requests, hdelivered.counted, EventsRaised.refl s.goodHeader⟩
  case full =>
    rw [State.takeAsk_of_full (by rwa [State.handed_requests])] at hdelivered ⊢
    exact ⟨s.handed_requests, hdelivered.counted, EventsRaised.raise .requestOverrun s.goodHeader⟩
end

section
namespace Sys2Proof.Machine

/-! ### The access check (R139, Table 8-4) -/

theorem maskWithin_iff {mask allowed : BitVec 32} :
    maskWithin mask allowed = true ↔ ∀ k ∈ List.range 32, mask.getLsbD k = true → allowed.getLsbD k = true := by
  simp only [maskWithin, beq_iff_eq, List.mem_range, BitVec.eq_of_getLsbD_eq_iff, BitVec.getLsbD_and, BitVec.getLsbD_not]
  exact forall₂_congr fun k hk => by simp [hk]

/-- Of a panel's fields a LIMITED stream may write the setpoint (Table 8-4). -/
theorem maskWithin_setpoint {mask : BitVec 32} :
    maskWithin mask 0x100#32 = true ↔ ∀ k ∈ List.range 32, mask.getLsbD k = true → k = 8 := by
  have hbits : ∀ k ∈ List.range 32, (0x100#32).getLsbD k = true ↔ k = 8 := by decide
  exact maskWithin_iff.trans (forall₂_congr fun k hk => by rw [hbits k hk])

/-- Of the Audio record's fields a LIMITED stream may write the four gains (Table 8-4). -/
theorem maskWithin_gains {mask : BitVec 32} :
    maskWithin mask 0xF0#32 = true ↔ ∀ k ∈ List.range 32, mask.getLsbD k = true → 4 ≤ k ∧ k ≤ 7 := by
  have hbits : ∀ k ∈ List.range 32, (0xF0#32).getLsbD k = true ↔ 4 ≤ k ∧ k ≤ 7 := by decide
  exact maskWithin_iff.trans (forall₂_congr fun k hk => by rw [hbits k hk])

theorem State.mayAccess_iff {r : Request} {s : State} : s.mayAccess r = true ↔
    s.streams[r.stream].enabled = true ∧ s.streams[r.stream].accepts = .ask ∧
      (s.streams[r.stream].access = .limited → r.limitedMay = true) := by
  simp only [State.mayAccess, Bool.and_eq_true, beq_iff_eq, and_assoc]
  cases s.streams[r.stream].access <;> simp

section
variable {r : Request}

theorem Request.limitedMay_of_read (h : r.op = 0x01#8) : r.limitedMay = (r.operands.isEmpty || r.table.isSome) := by
  simp [Request.limitedMay, h]

/-- A LIMITED stream writes PANELS and AUDIO alone, and of these the fields of Table 8-4. -/
theorem Request.limitedMay_of_write (h : r.op = 0x02#8) : r.limitedMay = true ↔ ∃ mask, r.mask = some mask ∧
    (r.table = some .panels ∧ (∀ k ∈ List.range 32, mask.getLsbD k = true → k = 8) ∨
      r.table = some .audio ∧ ∀ k ∈ List.range 32, mask.getLsbD k = true → 4 ≤ k ∧ k ≤ 7) := by
  have hop : r.op.toNat = 0x02 := by rw [h]; rfl
  simp only [Request.limitedMay, hop, ← maskWithin_setpoint, ← maskWithin_gains]
  split
  next hpanels hmask => simp [hpanels, hmask]
  next haudio hmask => simp [haudio, hmask]
  next hpanels haudio =>
    refine iff_of_false Bool.false_ne_true ?_
    rintro ⟨mask, hmask, ⟨htable, -⟩ | ⟨htable, -⟩⟩
    · exact hpanels mask htable hmask
    · exact haudio mask htable hmask

theorem Request.limitedMay_of_panels (h : r.op = 0x02#8) (htable : r.table = some .panels) : r.limitedMay = true ↔
    ∃ mask, r.mask = some mask ∧ ∀ k ∈ List.range 32, mask.getLsbD k = true → k = 8 := by
  simp [Request.limitedMay_of_write h, htable]

theorem Request.limitedMay_of_audio (h : r.op = 0x02#8) (htable : r.table = some .audio) : r.limitedMay = true ↔
    ∃ mask, r.mask = some mask ∧ ∀ k ∈ List.range 32, mask.getLsbD k = true → 4 ≤ k ∧ k ≤ 7 := by
  simp [Request.limitedMay_of_write h, htable]

theorem Request.mask_of_short (h : r.operands.length < 6) : r.mask = none := if_pos h

theorem Request.limitedMay_of_free (h : r.op = 0x03#8 ∨ r.op = 0x10#8) : r.limitedMay = true := by
  rcases h with h | h <;> simp [Request.limitedMay, h]

theorem Request.limitedMay_of_other (h : r.op ∉ [0x01#8, 0x02#8, 0x03#8, 0x10#8]) : r.limitedMay = false := by
  simp only [List.mem_cons, List.not_mem_nil, or_false, not_or, ← BitVec.toNat_inj] at h
  unfold Request.limitedMay
  split <;> simp_all

end

/-! ### No operation's own check refuses ACCESS (R145) -/

/-- The verdict of an operation's own checks: it does not refuse ACCESS, and an order that it answers later places no answer yet, so that
the answers stand as given. -/
inductive Verdict.PastAccess (answers : List Answer) : Verdict → Prop
  | refused {why : Reason} {field : Option Nat} (h : why ≠ .access := by decide) : PastAccess answers (.refused why field)
  | busy {field : Option Nat} : PastAccess answers (.busy field)
  | done {value : List Slot} {t : State} : PastAccess answers (.done value t)
  | deferred {t : State} (h : t.mgmt.answers = answers) : PastAccess answers (.deferred t)

section
variable {answers : List Answer} {r : Request}

theorem Verdict.PastAccess.ite {c : Prop} [Decidable c] {v w : Verdict} (hv : v.PastAccess answers) (hw : w.PastAccess answers) :
    (if c then v else w).PastAccess answers := by
  split
  · exact hv
  · exact hw

theorem Verdict.PastAccess.dite {c : Prop} [Decidable c] {v : c → Verdict} {w : ¬ c → Verdict} (hv : ∀ h, (v h).PastAccess answers)
    (hw : ∀ h, (w h).PastAccess answers) : (if h : c then v h else w h).PastAccess answers := by
  split
  · exact hv _
  · exact hw _

theorem Verdict.PastAccess.needing {n : Nat} {f : List Byte → Verdict} (h : ∀ bytes, (f bytes).PastAccess answers) :
    (r.needing n f).PastAccess answers := .ite .refused (h _)

theorem Verdict.PastAccess.ranged {α : Type} {x : Except Nat α} {f : α → Verdict} (h : ∀ v, (f v).PastAccess answers) :
    (Machine.ranged x f).PastAccess answers := by
  cases x with
  | error k => exact .refused
  | ok v => exact h v

theorem Verdict.PastAccess.unlessConflict {v : Verdict} (h : v.PastAccess answers) {mask : BitVec 32}
    {constraints : List (Bool × List Nat)} : (Machine.unlessConflict mask constraints v).PastAccess answers := .ite h .refused

theorem Verdict.PastAccess.writeAct {t : Table} {readOnly : Nat → Nat → Bool} {body : Nat → BitVec 32 → List Byte → Verdict} {s : State}
    (h : ∀ i m b, (body i m b).PastAccess answers) : (Machine.writeAct t readOnly body r s).PastAccess answers := by
  unfold Machine.writeAct
  split
  · exact .refused
  · refine .ite .refused (.ite .refused ?_)
    split
    · exact .refused
    · exact .ite .refused (h _ _ _)

theorem readAct_pastAccess (s : State) : (readAct r s).PastAccess answers := by
  refine .ite .refused (.needing fun bytes => ?_)
  split
  · exact .refused
  · split
    · exact .refused
    · exact .done

theorem writeOtherAct_pastAccess (s : State) : (writeOtherAct r s).PastAccess answers := by
  unfold writeOtherAct
  split
  · exact .ite .refused .refused
  · exact .refused

theorem eventSetAct_pastAccess (f : EventSet → State → State) (s : State) : (eventSetAct f r s).PastAccess answers := by
  refine .needing fun bytes => ?_
  split
  · exact .refused
  · exact .done

theorem gateAct_pastAccess (s : State) : (gateAct r s).PastAccess answers := by
  refine .needing fun bytes => ?_
  split
  · exact .done
  · exact .done
  · exact .refused

theorem groupStartAct_pastAccess (s : State) : (groupStartAct r s).PastAccess answers := by
  refine .needing fun bytes => ?_
  split
  · exact .refused
  · exact .ite .refused .done

theorem groupStopAct_pastAccess (s : State) : (groupStopAct r s).PastAccess answers := by
  refine .needing fun bytes => ?_
  split
  · exact .refused
  · exact .done

end

/-- A stance that changes at once ends the ramp (R106). -/
theorem State.changeAtOnce_ramp (t : Stance) (s : State) : (s.changeAtOnce t).power.ramp = none := by
  have hsettled := fun u : State => u.settleAnswer_changes .ramp (by decide)
  have hraised := fun u : State => u.raise_changes .stanceChanged .ramp (by decide)
  exact (hsettled _).trans ((hraised _).trans (by rw [State.changePower_power]))

theorem State.changePower_answers (p : Power) (s : State) : (s.changePower p).mgmt.answers = s.mgmt.answers :=
  State.takePush_changes s.stance.fast s.captureActive (s.withPower p) .answers (by decide)

/-- An evaluation that leaves a ramp in progress settles no stance, and so places no answer (R107, R153). -/
theorem State.evaluate_ramp_or_answers (s : State) :
    s.evaluate.power.ramp = none ∨ s.evaluate.mgmt.answers = s.mgmt.answers := by
  unfold State.evaluate
  dsimp only
  split
  · exact .inl (s.changeAtOnce_ramp _)
  · split
    · split
      · exact .inl (s.changeAtOnce_ramp _)
      · exact .inr (s.changePower_answers _)
    · exact .inr rfl

theorem stanceOrderAct_pastAccess (r : Request) (s : State) : (stanceOrderAct r s).PastAccess s.mgmt.answers := by
  refine .needing fun bytes => ?_
  split
  · exact .refused
  next x _ =>
    have hevaluated := (s.withPower { s.power with ordered := x }).evaluate_ramp_or_answers
    refine .ite .busy ?_
    dsimp only
    split
    next hramps => exact .deferred (hevaluated.resolve_left (Option.isSome_iff_ne_none.1 hramps))
    next => exact .done

/-- Every operation's checks come after the access check, and none of them refuses ACCESS (R139, R145). -/
theorem serviceAct_pastAccess {c : Instr} {act : Request → State → Verdict} (hact : serviceAct c = some act) (r : Request) (s : State) :
    (act r s).PastAccess s.mgmt.answers := by
  cases c <;> cases hact
  case read => exact readAct_pastAccess s
  case readSnapshot => exact .needing fun _ => .ite .refused .done
  case write => exact writeOtherAct_pastAccess s
  case writeStreams => exact .writeAct fun _ _ _ => .dite (fun _ => .ranged fun _ => .unlessConflict .done) fun _ => .refused
  case writeChannels =>
    exact .writeAct fun _ _ _ => .dite (fun _ => .ranged fun _ => .unlessConflict (.ite .busy (.ite .busy .done))) fun _ => .refused
  case writeGroups => exact .writeAct fun _ _ _ => .ranged fun _ => .ite .busy .done
  case writePanels => exact .writeAct fun _ _ _ => .ranged fun _ => .ite .busy .done
  case writeScanout => exact .writeAct fun _ _ _ => .ranged fun _ => .ite .busy .done
  case writeAudio => exact .writeAct fun _ _ _ => .ranged fun _ => .unlessConflict .done
  case writeReport => exact .writeAct fun _ _ _ => .ranged fun _ => .done
  case writeStances => exact .writeAct fun _ _ _ => .dite (fun _ => .ranged fun _ => .ite .busy .done) fun _ => .refused
  case writeStanceLimits => exact .writeAct fun _ _ _ => .ranged fun _ => .done
  case writeRules => exact .writeAct fun _ _ _ => .dite (fun _ => .ranged fun _ => .done) fun _ => .refused
  case descRead => exact .needing fun _ => .ite .refused (.ite .refused .done)
  case eventsClear => exact eventSetAct_pastAccess _ s
  case eventsEnable => exact eventSetAct_pastAccess _ s
  case eventsDisable => exact eventSetAct_pastAccess _ s
  case eventsInject => exact .needing fun _ => .ite .refused (eventSetAct_pastAccess _ s)
  case gate => exact gateAct_pastAccess s
  case lockLive => exact .done
  case groupStart => exact groupStartAct_pastAccess s
  case groupStop => exact groupStopAct_pastAccess s
  case rangeClear => exact .needing fun _ => .done
  case extremesClear => exact .needing fun _ => .done
  case stanceOrder => exact stanceOrderAct_pastAccess r s
  case countersClear => exact .done

/-- What becomes of a request past the access check places no refusal ACCESS of it. -/
theorem Verdict.PastAccess.answers_ne {v : Verdict} {u : State} (h : v.PastAccess u.mgmt.answers) (r : Request) :
    (u.conclude r v).mgmt.answers ≠ u.mgmt.answers ++ [r.refusal .access none] := by
  have hlast : ∀ (xs : List Answer) (a : Answer), a ≠ r.refusal .access none → xs ++ [a] ≠ u.mgmt.answers ++ [r.refusal .access none] :=
    fun _ _ ha happend => ha (List.singleton_inj.1 (List.append_inj_right' happend rfl))
  cases h with
  | refused hwhy => exact hlast _ _ (by simp [Request.refusal, hwhy])
  | busy => exact hlast _ _ (by simp [Request.refusal])
  | done => exact hlast _ _ (by simp [Request.refusal])
  | deferred hanswers =>
    intro happend
    exact List.cons_ne_nil _ _ (List.self_eq_append_right.1 (hanswers.symm.trans happend))

/-- The service of the oldest request, whatever its stream may do: the access check comes first (R139, R144). -/
theorem exec_oldest {row : Instr} {act : Request → State → Verdict} (hact : serviceAct row = some act) {r : Request}
    {rest : List Request} {s : State} (h : s.oldest r rest) (hrow : r.service = row) :
    exec row s = .next (s.afterService (fun r u => u.judgeRequest act r) r rest) := by
  obtain ⟨hrequests, hfill⟩ := h
  rw [exec_of_serviceAct hact, State.serve, hrequests]
  exact congrArg _ (if_pos ⟨hfill, hrow⟩)

theorem State.judgeRequest_of_barred {r : Request} {s : State} (h : s.mayAccess r = false) (act : Request → State → Verdict) :
    s.judgeRequest act r = .refused .access none := if_neg (Bool.eq_false_iff.1 h)

theorem State.judgeRequest_of_permitted {r : Request} {s : State} (h : s.mayAccess r = true) (act : Request → State → Verdict) :
    s.judgeRequest act r = act r s := if_pos h

theorem State.dequeued_mayAccess (rest : List Request) (r : Request) (s : State) : (s.dequeued rest).mayAccess r = s.mayAccess r := rfl

end Sys2Proof.Machine

open Sys2Proof Sys2Proof.Machine

/-- Settles O32: Table 8-4 operation by operation, and past it no check that refuses ACCESS. -/
theorem accessCheckedFirst : Obligations.AccessCheckedFirst := by
  intro r rest s holdest
  obtain ⟨act, hact⟩ := Option.isSome_iff_exists.1 r.serviceAct_isSome
  refine ⟨_, exec_oldest hact holdest rfl, fun hbarred => ?barred, fun henabled haccepts hpermits => ?permitted⟩
  case barred =>
    refine State.afterService_refused (State.judgeRequest_of_barred ?_ act)
    rw [State.dequeued_mayAccess, Bool.eq_false_iff, Ne, State.mayAccess_iff]
    rintro ⟨henabled, haccepts, hlimited⟩
    rcases hbarred with hentry | ⟨haccess, hop⟩ | ⟨haccess, hop, hoperands, htable⟩ | ⟨haccess, hop, hpanels, haudio⟩ |
      ⟨haccess, hop, hshort⟩ | ⟨haccess, hop, htable, k, hk, houtside, hmasked⟩ | ⟨haccess, hop, htable, k, hk, houtside, hmasked⟩
    · exact hentry ⟨henabled, haccepts⟩
    · exact Bool.false_ne_true ((Request.limitedMay_of_other hop).symm.trans (hlimited haccess))
    · have hmay := hlimited haccess
      rw [Request.limitedMay_of_read hop] at hmay
      simp [hoperands, htable] at hmay
    · obtain ⟨_, -, ⟨htable, -⟩ | ⟨htable, -⟩⟩ := (Request.limitedMay_of_write hop).1 (hlimited haccess)
      · exact hpanels htable
      · exact haudio htable
    · obtain ⟨_, hmask, -⟩ := (Request.limitedMay_of_write hop).1 (hlimited haccess)
      cases (Request.mask_of_short hshort).symm.trans hmask
    · obtain ⟨_, hmask, hwithin⟩ := (Request.limitedMay_of_panels hop htable).1 (hlimited haccess)
      rw [hmask, Option.any_some] at hmasked
      exact houtside (hwithin k hk hmasked)
    · obtain ⟨_, hmask, hwithin⟩ := (Request.limitedMay_of_audio hop htable).1 (hlimited haccess)
      rw [hmask, Option.any_some] at hmasked
      have := hwithin k hk hmasked
      omega
  case permitted =>
    have hmay : s.mayAccess r = true := State.mayAccess_iff.2 ⟨henabled, haccepts, fun hlimited => by
      rcases hpermits with hfull | hop | hop | ⟨hop, htable⟩ | ⟨hop, htable, mask, hmask, hwithin⟩ | ⟨hop, htable, mask, hmask, hwithin⟩
      · rw [hlimited] at hfull
        cases hfull
      · exact Request.limitedMay_of_free (.inl hop)
      · exact Request.limitedMay_of_free (.inr hop)
      · rw [Request.limitedMay_of_read hop, htable, Bool.or_true]
      · exact (Request.limitedMay_of_panels hop htable).2 ⟨mask, hmask, hwithin⟩
      · exact (Request.limitedMay_of_audio hop htable).2 ⟨mask, hmask, hwithin⟩⟩
    rw [State.afterService, State.judgeRequest_of_permitted (s := s.dequeued rest) hmay]
    exact (serviceAct_pastAccess hact r (s.dequeued rest)).answers_ne r
end

section
namespace Sys2Proof.Machine

/-! ### COUNTERS_CLEAR (R57, R123, R124, R152) -/

/-- All counters cleared in one event (R152). -/
def State.countersCleared (s : State) : State :=
  { s with
    streams := s.streams.map fun e => { e with accepted := 0, discarded := 0 }
    link := { s.link with counters := LinkCounters.zero }
    frames := { s.frames with superseded := 0 } }

theorem State.countersCleared_changes (s : State) : ChangesOnly [.streams, .counters, .superseded] s s.countersCleared := by
  intro p hp
  cases p <;> simp_all [Part.same, State.countersCleared]

theorem countersClearAct_eq (r : Request) (s : State) : countersClearAct r s = .done [] s.countersCleared := by
  have hstreams : Vector.ofFn (fun i : Fin 32 => { s.streams[i] with accepted := 0, discarded := 0 }) =
      s.streams.map fun e => { e with accepted := 0, discarded := 0 } := Vector.ext fun i hi => by simp
  rw [countersClearAct, hstreams]
  rfl

/-- A LIMITED stream may not make a request outside Table 8-4. -/
theorem State.mayAccess_of_limited {r : Request} {s : State} (haccess : s.streams[r.stream].access = .limited)
    (hop : r.op ∉ [0x01#8, 0x02#8, 0x03#8, 0x10#8]) : s.mayAccess r = false :=
  Bool.eq_false_iff.2 fun hmay =>
    have ⟨_, _, hlimited⟩ := State.mayAccess_iff.1 hmay
    Bool.false_ne_true ((Request.limitedMay_of_other hop).symm.trans (hlimited haccess))

end Sys2Proof.Machine

open Sys2Proof Sys2Proof.Machine

/-- Settles O52: the clearing is one change of the three counter parts, and on a LIMITED stream the access check comes before it. -/
theorem countersClear : Obligations.CountersClear := by
  refine ⟨fun r hop rest s h => ?cleared, fun r hop rest s h haccess => ?barred⟩
  case cleared =>
    have hchanges := (s.dequeued rest).countersCleared_changes
    refine ⟨_, exec_atService rfl h (by simp [Request.service, hop]), ?_⟩
    rw [State.afterService_done (countersClearAct_eq r _)]
    exact ⟨Answered.place hchanges (by decide) _, fun i => Vector.getElem_map _ i.isLt, rfl, rfl, hchanges.place (by decide) _⟩
  case barred =>
    have hbarred : s.mayAccess r = false := State.mayAccess_of_limited haccess (by rw [hop]; decide)
    exact ⟨_, exec_oldest rfl h (by simp [Request.service, hop]),
      State.afterService_refused (State.judgeRequest_of_barred ((s.dequeued_mayAccess rest r).trans hbarred) countersClearAct)⟩
end

section
namespace Sys2Proof.Machine

/-! ### The event operations (R151, R160 to R165) -/

/-- An event set that stands in a request's operands (R151). -/
theorem eventSetOf_le_append (x : EventSet) (bytes : List Byte) : eventSetOf (le 4 x.toNat ++ bytes) = some x := by
  have hbytes : x.toNat < 256 ^ 4 := x.isLt.trans (by decide)
  simp only [eventSetOf, take_le_append, ofLe_le, Nat.mod_eq_of_lt hbytes, if_pos x.isLt, BitVec.ofNat_toNat, BitVec.setWidth_eq]

/-- An operation on the set of kinds that its operands name. -/
theorem eventSetAct_of_operands {r : Request} {x : EventSet} {extra : List Byte} (hoperands : r.operands = le 4 x.toNat ++ extra)
    (f : EventSet → State → State) (s : State) : eventSetAct f r s = doneEvents (f x s) := by
  rw [eventSetAct, Request.needing_of_le (by simp [hoperands]), hoperands, eventSetOf_le_append]

/-- The live lock is looked at before the set is raised (R165). -/
theorem eventsInjectAct_of_operands {r : Request} {x : EventSet} {extra : List Byte} (hoperands : r.operands = le 4 x.toNat ++ extra)
    (s : State) : eventsInjectAct r s = if s.events.lock then .refused .locked none else doneEvents (s.injectEvents x) := by
  rw [eventsInjectAct, Request.needing_of_le (by simp [hoperands]), eventSetAct_of_operands hoperands]

/-- GATE's operand is one byte; 0 and 1 alone are in range (R151). -/
theorem gateAct_of_operands {r : Request} {b : Byte} {extra : List Byte} (hoperands : r.operands = b :: extra) (s : State) :
    gateAct r s = if b.toNat ≤ 1 then doneEvents (s.setGate (decide (b = 1#8))) else .refused .range none := by
  have hbyte : byteAt r.operands 0 = b := by rw [hoperands]; rfl
  rw [gateAct, Request.needing_of_le (by simp [hoperands]), hbyte]
  split
  next hb => rw [BitVec.eq_of_toNat_eq (y := 0#8) hb]; rfl
  next hb => rw [BitVec.eq_of_toNat_eq (y := 1#8) hb]; rfl
  next h0 h1 => exact (if_neg (by simp only [Nat.le_one_iff_eq_zero_or_eq_one, not_or]; exact ⟨h0, h1⟩)).symm

/-- An event operation that is carried out answers with the Event Unit as it then stands (Table 11-5). -/
theorem State.afterService_doneEvents {P Q : List Part} {act : Request → State → Verdict} {r : Request} {rest : List Request} {s u : State}
    (hact : act r (s.dequeued rest) = doneEvents u) (hchanges : ChangesOnly P (s.dequeued rest) u)
    (hP : ∀ p ∈ [Part.requests, .answers], p ∉ P) (hQ : [.requests, .answers] ++ P ⊆ Q) :
    (s.afterService act r rest).events = u.events ∧
      Answered rest (r.done (s.afterService act r rest).events.slots) s (s.afterService act r rest) ∧
      ChangesOnly Q s (s.afterService act r rest) := by
  rw [State.afterService_done hact]
  exact ⟨rfl, Answered.place hchanges hP _, hchanges.place hQ _⟩

/-- A gate moved to where it stands leaves a lawful NOTICE slot alone (R163). -/
theorem State.setGate_of_same {s : State} (hlaw : NoticeLaw s) {opened : Bool} (h : s.events.gateOpen = opened) : s.setGate opened = s := by
  obtain ⟨hnotice, -⟩ := hlaw
  have hsettled : s.events.settle { s.events with gateOpen := opened } = s.events := by
    subst h
    have hkept : (s.events.gateOpen && s.events.pending != 0 && (s.events.notice || s.events.pending &&& ~~~s.events.pending != 0 ||
        s.events.gateOpen && !s.events.gateOpen)) = s.events.notice := by
      cases hready : s.events.notice with
      | true =>
        obtain ⟨hopen, hpending⟩ := hnotice hready
        simpa [hopen] using hpending
      | false => simp
    exact congrArg (fun ready => { s.events with notice := ready }) hkept
  rw [State.setGate, hsettled]

/-! ### The live lock (R131, R165) -/

section
variable {s t : State}

/-- A change that does not touch the live lock leaves it as it is. -/
theorem ChangesOnly.lock_eq {P : List Part} (h : ChangesOnly P s t) (hP : Part.lock ∉ P) : t.events.lock = s.events.lock := h _ hP

/-- Of the services LOCK_LIVE alone touches the live lock. -/
theorem lock_notMem_serviceParts {c : Instr} {act : Request → State → Verdict} (hact : serviceAct c = some act) (hc : c ≠ .lockLive) :
    Part.lock ∉ serviceParts c := by
  cases c <;> cases hact
  case lockLive => exact absurd rfl hc
  all_goals decide

/-- No service clears the live lock. -/
theorem State.serve_locked {c : Instr} {act : Request → State → Verdict} (hact : serviceAct c = some act) (hs : s.events.lock = true) :
    (s.serve c act).events.lock = true := by
  refine State.serve_keeps (P := fun u => u.events.lock = true) (fun _ _ hu => hu) (fun r u hu => ?_) hs
  by_cases hc : c = .lockLive
  · subst hc
    cases hact
    exact u.setLock_lock
  · exact (serviceAct_changes hact r u).mono fun _ ht => (ht.lock_eq (lock_notMem_serviceParts hact hc)).trans hu

theorem State.caughtUp_locked (hs : s.events.lock = true) : s.caughtUp.events.lock = true :=
  State.caughtUp_keeps (P := fun u => u.events.lock = true) (fun _ _ hact _ hu => State.serve_locked hact hu) hs

theorem State.timed_lock {P : List Part} {f : State → State} (due : Option Time) (hf : ∀ u, ChangesOnly P u (f u)) (hP : Part.lock ∉ P)
    (s : State) : (s.timed due f).events.lock = s.events.lock :=
  (s.timed_changes due hf).lock_eq (by simpa using hP)

theorem State.whenReceiving_lock {f : State → State} (hf : (f s).events.lock = s.events.lock) :
    (s.whenReceiving f).events.lock = s.events.lock := by
  unfold State.whenReceiving
  split
  · exact hf
  · rfl

theorem State.arrive_lock {P : List Part} {i : Fin 32} {admits : StreamEntry → Bool} {deliver : StreamEntry → State → Bool × State}
    (hdeliver : ∀ e u, ChangesOnly P u (deliver e u).2) (hP : Part.lock ∉ P) : (s.arrive i admits deliver).events.lock = s.events.lock :=
  (s.arrive_changes i admits deliver hdeliver).lock_eq (by simpa [headerParts, grantParts] using hP)

/-- A cell that its length or its operands turn away as a runt, and is else taken. -/
theorem State.cell_lock {fits : State → Bool} {f : State → State} (hf : (f s).events.lock = s.events.lock) :
    (s.whenReceiving fun s => if fits s then f s else s.discardCell .runt).events.lock = s.events.lock := by
  refine State.whenReceiving_lock ?_
  split
  · exact hf
  · exact (s.discardCell_changes .runt).lock_eq (by decide)

theorem State.tetherReset_lock (s : State) : s.tetherReset.events.lock = s.events.lock := by
  simp [State.tetherReset]

theorem State.reset_lock (i : Fin 32) (s : State) : (State.whenReceiving (fun s =>
    let s := s.arrive i (fun _ => i == 0) fun _ s => (true, s)
    if i = 0 then s.tetherReset else s) s).events.lock = s.events.lock := by
  have harrives : (s.arrive i (fun _ => i == 0) fun _ s => (true, s)).events.lock = s.events.lock :=
    State.arrive_lock (P := []) (fun _ u => .refl _ u) (by decide)
  refine State.whenReceiving_lock ?_
  dsimp only
  split
  · exact (State.tetherReset_lock _).trans harrives
  · exact harrives

theorem State.crystalStops_changes (s : State) : ChangesOnly [.clock] s s.crystalStops := by
  unfold State.crystalStops
  split
  · exact s.setClock_changes _
  · exact .refl _ s

theorem State.crystalLossExpires_changes (s : State) :
    ChangesOnly [.clock, .lane, .cause, .raised, .notice, .leftPanel, .rightPanel, .queueA, .queueB] s s.crystalLossExpires := by
  cases hwatch : s.clock.watch with
  | none => simpa only [State.crystalLossExpires, hwatch] using ChangesOnly.refl _ s
  | some n =>
    rw [State.crystalLossExpires_eq hwatch]
    exact (s.fallen_changes n).step (State.darkened_changes _) (by decide) (by decide)

/-- The live lock stays set until a power-on reset (R165). -/
theorem exec_locked {c : Instr} (hc : c ≠ .powerOnReset) (hs : s.events.lock = true) (ht : exec c s = .next t) : t.events.lock = true := by
  have hturn : ∀ {f : State → State}, s.inTurn f = .next t → (∀ u, (f u).events.lock = u.events.lock) → t.events.lock = true :=
    fun ht hf => Host.Outcome.next.inj ht ▸ (hf _).trans (State.caughtUp_locked hs)
  have hchanges : ∀ {P : List Part} {f : State → State}, s.inTurn f = .next t → (∀ u, ChangesOnly P u (f u)) → Part.lock ∉ P →
      t.events.lock = true := fun ht hf hP => hturn ht fun u => (hf u).lock_eq hP
  cases hact : serviceAct c with
  | some act => exact Host.Outcome.next.inj ((exec_of_serviceAct hact s).symm.trans ht) ▸ State.serve_locked hact hs
  | none =>
    cases c
    all_goals simp only [serviceAct, reduceCtorEq] at hact
    case powerOnReset => exact absurd rfl hc
    case reset i => exact hturn ht (State.reset_lock i)
    case holdExpiry => exact hturn ht (State.timed_lock _ State.holdExpires_changes (by decide))
    case clockAbsent cut => exact hchanges ht (State.clockStops_changes cut) (by decide)
    case clockReturn => exact hchanges ht State.clockReturns_changes (by decide)
    case clockLossExpiry => exact hchanges ht State.clockLossExpires_changes (by decide)
    case crystalAbsent => exact hchanges ht State.crystalStops_changes (by decide)
    case crystalReturn => exact hturn ht fun _ => rfl
    case crystalLossExpiry => exact hchanges ht State.crystalLossExpires_changes (by decide)
    case cellDiscarded framed => exact hchanges ht (State.discardFramed_changes framed) (by decide)
    case fill => exact hturn ht fun u => State.whenReceiving_lock (u.goodHeader_changes.lock_eq (by decide))
    case picOpen => exact hturn ht fun _ => State.whenReceiving_lock (State.arrive_lock (fun _ u => u.openFrame_changes _ _ _) (by decide))
    case picBand => exact hturn ht fun _ => State.cell_lock (State.arrive_lock (fun _ u => u.acceptBand_changes _ _ _ _) (by decide))
    case picClose => exact hturn ht fun _ => State.whenReceiving_lock (State.arrive_lock (fun _ u => u.closeFrame_changes _) (by decide))
    case bandWriteComplete i => exact hchanges ht (State.completeWrite_changes i) (by decide)
    case sound => exact hturn ht fun _ => State.cell_lock (State.arrive_lock (fun _ u => u.takeSound_changes _ _) (by decide))
    case ask => exact hturn ht fun _ => State.cell_lock (State.arrive_lock (fun _ u => u.takeAsk_changes _) (by decide))
    case scanTrigger g => exact hturn ht fun _ => State.timed_lock _ (State.timerTrigger_changes g) (by decide) _
    case burstComplete raw => exact hturn ht fun _ => State.timed_lock _ (State.burstDone_changes raw) (by decide) _
    case conversionComplete raw => exact hturn ht fun _ => State.timed_lock _ (State.conversionDone_changes raw) (by decide) _
    case ageExpiry => exact hturn ht fun _ => State.timed_lock _ State.ageHead_changes (by decide) _
    case frameLatch => exact hturn ht fun _ => State.timed_lock _ State.frameLatch_changes (by decide) _
    case panelReady e => exact hturn ht fun _ => State.timed_lock _ (State.panelOn_changes e) (by decide) _
    case powerDownComplete e => exact hturn ht fun _ => State.timed_lock _ (State.panelDown_changes e) (by decide) _
    case outputTick => exact hturn ht fun _ => State.timed_lock _ State.outputTick_changes (by decide) _
    case slipCheck =>
      refine hturn (f := fun u => if u.sound.slipDue then u.slipCheck else u) ht fun u => ?_
      split
      · exact u.slipCheck_changes.lock_eq (by decide)
      · rfl
    case microphoneSample x => exact hturn ht fun _ => State.timed_lock _ (State.microphone_changes x) (by decide) _
    case stanceCheck => exact hturn ht fun _ => State.timed_lock _ State.stanceCheck_changes (by decide) _
    case cellBoundary => exact hchanges ht State.cellBoundary_changes (by decide)

end

end Sys2Proof.Machine

open Sys2Proof Sys2Proof.Machine

/-- Settles O47: the operand names the gate's new state, and a lawful NOTICE slot follows it. -/
theorem gateOpensAndCloses : Obligations.GateOpensAndCloses := by
  intro b extra r hop hoperands rest s h
  have hact := gateAct_of_operands hoperands (s.dequeued rest)
  refine ⟨_, exec_atService rfl h (by simp [Request.service, hop]), fun hb => ?moved, fun hb => ?range⟩
  case range => exact State.afterService_refused (hact.trans (if_neg (by omega)))
  case moved =>
    have hmoved := hact.trans (if_pos hb)
    have hchanges := (s.dequeued rest).setGate_changes (decide (b = 1#8))
    have hsettles := NoticeSettles.setGate (decide (b = 1#8)) (s.dequeued rest)
    obtain ⟨hevents, hanswered, hparts⟩ := State.afterService_doneEvents (Q := [.requests, .answers, .gate, .notice]) hmoved hchanges
      (by decide) (by decide)
    refine ⟨by rw [hevents]; rfl, by rwa [NoticeSettles, hevents], hanswered, hparts, fun hlaw hsame => ?_⟩
    rw [State.setGate_of_same (s := s.dequeued rest) hlaw hsame] at hmoved
    exact (State.afterService_done_same hmoved).2

/-- Settles O48: the injection goes by the lock, and of the commands only LOCK_LIVE and a power-on reset touch it. -/
theorem injectionAndLock : Obligations.InjectionAndLock := by
  refine ⟨fun x extra r hop hoperands rest s h => ?inject, fun r hop rest s h => ?lock, fun c s hc hs t ht => exec_locked hc hs ht⟩
  case inject =>
    have hact := eventsInjectAct_of_operands hoperands (s.dequeued rest)
    refine ⟨_, exec_atService rfl h (by simp [Request.service, hop]), fun hclear => ?raised, fun hlocked => ?locked⟩
    case locked => exact State.afterService_refused (hact.trans (if_pos hlocked))
    case raised =>
      have hsettles := NoticeSettles.injectEvents x (s.dequeued rest)
      obtain ⟨hevents, hanswered, hparts⟩ := State.afterService_doneEvents (Q := [.requests, .answers, .raised, .notice])
        (hact.trans (if_neg (Bool.eq_false_iff.1 hclear))) ((s.dequeued rest).injectEvents_changes x) (by decide) (by decide)
      exact ⟨by rw [hevents]; rfl, by rwa [NoticeSettles, hevents], hanswered, hparts⟩
  case lock =>
    obtain ⟨hevents, hanswered, hparts⟩ := State.afterService_doneEvents (act := lockLiveAct) (r := r) (Q := [.requests, .answers, .lock])
      rfl (s.dequeued rest).setLock_changes (by decide) (by decide)
    exact ⟨_, exec_atService rfl h (by simp [Request.service, hop]), by rw [hevents]; rfl, hanswered, hparts⟩
end

section
namespace Sys2Proof.Machine

/-! ### DESC_READ (R154, R155, R172, R173) -/

theorem length_descRecord (kind next : Nat) (body : List Byte) : (descRecord kind next body).length = body.length + 8 := by
  simp [descRecord]
  omega

theorem length_descSource (number kind : Nat) (least greatest : Int) (hint : Nat) :
    (descSource number kind least greatest hint).length = 8 := by
  simp [descSource]

/-- The five records fill the image (R173). -/
theorem length_descriptor : descriptor.length = 384 := by
  simp [descriptor, descIdentity, descPanelLimits, descSources, descAudioLimits, descTableSizes, length_descRecord, length_descSource,
    allTables]

/-- The slot that four bytes are holds those bytes. -/
theorem le_ofLe {bytes : List Byte} {k : Nat} (h : bytes.length = k) : le k (ofLe bytes) = bytes := by
  subst h
  induction bytes with
  | nil => rfl
  | cons b bytes ih =>
    have hb : (b.toNat + 256 * ofLe bytes) / 256 = ofLe bytes := by have := b.isLt; omega
    have hhead : BitVec.ofNat 8 (b.toNat + 256 * ofLe bytes) = b := BitVec.eq_of_toNat_eq (by have := b.isLt; simp; omega)
    rw [ofLe, List.length_cons, le, hb, hhead, ih]

theorem ofLe_lt (bytes : List Byte) : ofLe bytes < 256 ^ bytes.length := by
  induction bytes with
  | nil => simp [ofLe]
  | cons b bytes ih =>
    have := b.isLt
    rw [ofLe, List.length_cons, pow_succ]
    omega

theorem le_imageSlot {bytes : List Byte} {k : Nat} (h : 4 * k + 4 ≤ bytes.length) :
    le 4 (imageSlot bytes k).toNat = (bytes.drop (4 * k)).take 4 := by
  have hlength : ((bytes.drop (4 * k)).take 4).length = 4 := by simp; omega
  have hlt : ofLe ((bytes.drop (4 * k)).take 4) < 2 ^ 32 :=
    (ofLe_lt _).trans_eq (by rw [hlength]; rfl)
  rw [imageSlot, BitVec.toNat_ofNat, Nat.mod_eq_of_lt hlt, le_ofLe hlength]

/-- The slots of an image hold its bytes in order (R172). -/
theorem flatMap_slotsOfBytes {count : Nat} {bytes : List Byte} (h : 4 * count ≤ bytes.length) :
    (slotsOfBytes count bytes).flatMap (fun v => le 4 v.toNat) = bytes.take (4 * count) := by
  induction count with
  | zero => simp [slotsOfBytes]
  | succ count ih =>
    have hsucc : slotsOfBytes (count + 1) bytes = slotsOfBytes count bytes ++ [imageSlot bytes count] := by
      simp [slotsOfBytes, List.range_succ]
    rw [hsucc, List.flatMap_append, ih (by omega), List.flatMap_singleton, le_imageSlot (by omega), Nat.mul_succ, List.take_add]

section
variable {r : Request} {offset : BitVec 16} {len : Byte} {extra : List Byte}

/-- The two checks of a DESC_READ, and the bytes it answers (R155). -/
theorem descReadAct_of_operands (hoperands : r.operands = le 2 offset.toNat ++ len :: extra) (s : State) : descReadAct r s =
    if offset.toNat % 4 ≠ 0 ∨ len.toNat % 4 ≠ 0 then .refused .align none
    else if len.toNat < 4 ∨ 240 < len.toNat ∨ 384 < offset.toNat + len.toNat then .refused .range none
    else .done (slotsOfBytes (len.toNat / 4) (descriptor.drop offset.toNat)) s := by
  have hoffset : ofLe (r.operands.take 2) = offset.toNat := by
    have hlt : offset.toNat < 256 ^ 2 := offset.isLt
    rw [hoperands, take_le_append, ofLe_le, Nat.mod_eq_of_lt hlt]
  have hlen : byteAt r.operands 2 = len := by rw [hoperands]; rfl
  rw [descReadAct, Request.needing_of_le (by simp [hoperands]; omega)]
  simp only [hoffset, hlen]

end

end Sys2Proof.Machine

open Sys2Proof Sys2Proof.Machine

/-- Settles O34: the two checks in order, and past them the slots of the image, which hold its bytes. -/
theorem descReadAnswersBytes : Obligations.DescReadAnswersBytes := by
  refine ⟨length_descriptor, fun offset len extra r hop hoperands rest s holdest henabled haccepts => ?_⟩
  have hmay : s.mayAccess r = true := State.mayAccess_iff.2 ⟨henabled, haccepts, fun _ => Request.limitedMay_of_free (.inl hop)⟩
  have hact := descReadAct_of_operands hoperands (s.dequeued rest)
  have hexec : exec .descRead s = .next (s.afterService descReadAct r rest) :=
    exec_atService rfl ⟨holdest, hmay⟩ (by simp [Request.service, hop])
  have halign : offset.toNat % 4 ≠ 0 ∨ len.toNat % 4 ≠ 0 → _ := fun hodd => State.afterService_refused (hact.trans (if_pos hodd))
  have hrange : ¬ (offset.toNat % 4 ≠ 0 ∨ len.toNat % 4 ≠ 0) →
      len.toNat < 4 ∨ 240 < len.toNat ∨ 384 < offset.toNat + len.toNat → _ := fun heven hout =>
    State.afterService_refused (hact.trans ((if_neg heven).trans (if_pos hout)))
  have hdone : ¬ (offset.toNat % 4 ≠ 0 ∨ len.toNat % 4 ≠ 0) →
      ¬ (len.toNat < 4 ∨ 240 < len.toNat ∨ 384 < offset.toNat + len.toNat) → _ := fun heven hin =>
    State.afterService_done_same (hact.trans ((if_neg heven).trans (if_neg hin)))
  refine ⟨_, hexec, ?changes, fun hodd => (halign hodd).1, fun ho hl hout => (hrange (by omega) hout).1, fun ho hl hlo hhi hend => ?done⟩
  case changes =>
    by_cases hodd : offset.toNat % 4 ≠ 0 ∨ len.toNat % 4 ≠ 0
    · exact (halign hodd).2
    · by_cases hout : len.toNat < 4 ∨ 240 < len.toNat ∨ 384 < offset.toNat + len.toNat
      · exact (hrange hodd hout).2
      · exact (hdone hodd hout).2
  case done =>
    refine ⟨_, (hdone (by omega) (by omega)).1, ?_⟩
    have hslots : 4 * (len.toNat / 4) = len.toNat := by omega
    rw [flatMap_slotsOfBytes (by rw [List.length_drop, length_descriptor]; omega), hslots]
end

section
namespace Sys2Proof.Machine

/-! ### The codings' ranges (R148, R172) -/

section
variable (v : Slot)

theorem decodeBool_isNone : (decodeBool v).isNone = decide (1 < v.toNat) := by
  unfold decodeBool
  split <;> simp_all
  omega

theorem decodeAccepts_isNone : (decodeAccepts v).isNone = decide (3 < v.toNat) := by
  unfold decodeAccepts
  split <;> simp_all
  omega

theorem decodeSink_isNone : (decodeSink v).isNone = decide (1 < v.toNat) := by
  unfold decodeSink
  split <;> simp_all
  omega

theorem decodeAccess_isNone : (decodeAccess v).isNone = decide (1 < v.toNat) := by
  unfold decodeAccess
  split <;> simp_all
  omega

theorem decodeSource_isNone : (decodeSource v).isNone = decide (16 < v.toNat) := by
  unfold decodeSource
  split_ifs <;> simp <;> omega

theorem decodeGroupField_isNone : (decodeGroupField v).isNone = decide (2 < v.toNat) := by
  unfold decodeGroupField
  split <;> simp_all
  omega

theorem decodeRole_isNone : (decodeRole v).isNone = decide (2 < v.toNat) := by
  unfold decodeRole
  split <;> simp_all
  omega

theorem decodeRangeMode_isNone : (decodeRangeMode v).isNone = decide (2 < v.toNat) := by
  unfold decodeRangeMode
  split <;> simp_all
  omega

theorem decodeScanMode_isNone : (decodeScanMode v).isNone = decide (2 < v.toNat) := by
  unfold decodeScanMode
  split <;> simp_all
  omega

theorem decodeTrigger_isNone : (decodeTrigger v).isNone = decide (2 < v.toNat) := by
  unfold decodeTrigger
  split <;> simp_all
  omega

theorem decodeRefresh_isNone : (decodeRefresh v).isNone = !([72, 80, 90, 120, 144].contains v.toNat) := by
  unfold decodeRefresh
  split <;> simp_all

theorem decodeStance_isNone : (decodeStance v).isNone = decide (3 < v.toNat) := by
  unfold decodeStance stanceOf
  split <;> simp_all
  omega

theorem decodeSlotNumber_isNone : (decodeSlotNumber v).isNone = decide (15 < v.toNat) := by
  unfold decodeSlotNumber
  split <;> simp <;> omega

theorem decodeSigned16_isNone : (decodeSigned16 v).isNone = (decide (v.toInt < -32768) || decide (32767 < v.toInt)) := by
  unfold decodeSigned16
  split <;> simp <;> omega

theorem decodeIn_isNone (lo hi : Nat) : (decodeIn lo hi v).isNone = (decide (v.toNat < lo) || decide (hi < v.toNat)) := by
  unfold decodeIn
  split <;> simp <;> omega

theorem decodeIn_zero_isNone (hi : Nat) : (decodeIn 0 hi v).isNone = decide (hi < v.toNat) := by
  simp [decodeIn_isNone]

/-- A number in a range that is also a multiple of another. -/
theorem decodeIn_filter_isNone (lo hi n : Nat) : ((decodeIn lo hi v).filter fun x => x % n == 0).isNone =
    (decide (v.toNat < lo) || decide (hi < v.toNat) || v.toNat % n != 0) := by
  unfold decodeIn
  split
  next hrange =>
    have hlo : ¬ v.toNat < lo := by omega
    have hhi : ¬ hi < v.toNat := by omega
    cases hmod : v.toNat % n == 0 <;> simp [hlo, hhi, hmod, bne]
  next hrange =>
    have hout : v.toNat < lo ∨ hi < v.toNat := by omega
    rcases hout with h | h <;> simp [h]

theorem decodeDimension_isNone : (decodeDimension v).isNone =
    (decide (v.toNat < 1024) || decide (2304 < v.toNat) || v.toNat % 16 != 0) := decodeIn_filter_isNone v 1024 2304 16

theorem decodeRampTime_isNone : (decodeRampTime v).isNone = (decide (1000 < v.toNat) || v.toNat % 10 != 0) :=
  (decodeIn_filter_isNone v 0 1000 10).trans (by rw [decide_eq_false (Nat.not_lt_zero _), Bool.false_or])

theorem decodeHold_isNone (index : Nat) : (decodeHold (if index = 0 then .fast else .slow) v).isNone =
    (decide (1 < v.toNat) || (index == 0 && v == 1)) := by
  have hcases : v = 0#32 ∨ v = 1#32 ∨ 1 < v.toNat := by bv_omega
  rcases hcases with rfl | rfl | hv
  · by_cases hindex : index = 0 <;> simp [hindex, decodeHold, decodeBool]
  · by_cases hindex : index = 0 <;> simp [hindex, decodeHold, decodeBool]
  · have hnone : decodeBool v = none := by rw [← Option.isNone_iff_eq_none, decodeBool_isNone, decide_eq_true hv]
    by_cases hindex : index = 0 <;> simp [hindex, decodeHold, hnone, hv]

end

/-! ### The lowest masked field that a check picks (R145) -/

section
variable {mask : BitVec 32} {p : Nat → Bool}

theorem lowestField_eq_some {k : Nat} (hk : k ∈ List.range 32) (hmask : mask.getLsbD k = true) (hp : p k = true)
    (hlowest : ∀ j ∈ List.range k, mask.getLsbD j = true → p j = false) : lowestField mask p = some k := by
  refine List.find?_range_eq_some.2 ⟨?_, hk, fun j hj => ?_⟩
  · rw [hmask, hp]
    rfl
  · cases hbit : mask.getLsbD j with
    | true => simp [hlowest j (List.mem_range.2 hj) hbit]
    | false => rfl

theorem lowestField_eq_none_iff : lowestField mask p = none ↔ ∀ k ∈ List.range 32, mask.getLsbD k = true → p k = false := by
  simp [lowestField, List.find?_eq_none]

end

/-! ### The checks of a WRITE before its values (R134, R145, R146, R148) -/

/-- The command that serves a WRITE to a table (Table 9-2). -/
def Table.writeRow : Table → Instr
  | .streams => .writeStreams
  | .channels => .writeChannels
  | .groups => .writeGroups
  | .panels => .writePanels
  | .scanout => .writeScanout
  | .audio => .writeAudio
  | .report => .writeReport
  | .stances => .writeStances
  | .stanceLimits => .writeStanceLimits
  | .rules => .writeRules
  | _ => .write

theorem Request.service_write {r : Request} {t : Table} (hop : r.op = 0x02#8) (htable : r.table = some t) : r.service = t.writeRow := by
  cases t <;> simp [Request.service, hop, htable, Table.writeRow]

theorem Request.service_write_of_undefined {r : Request} (hop : r.op = 0x02#8) (htable : r.table = none) : r.service = .write := by
  simp [Request.service, hop, htable]

/-- The fields of an entry, among the writable ones of its table, that may not be written: all of STREAMS entry 0, and STANDBY's four
permissions (R100, R134). -/
def Table.readOnlyEntry (t : Table) (index k : Nat) : Bool :=
  match t with
  | .streams => index == 0
  | .stances => index == 3 && decide (3 ≤ k)
  | _ => false

theorem readOnlyField_iff {t : Table} {index k : Nat} :
    (decide (t.writableSlots ≤ k) || t.readOnlyEntry index k) = true ↔ ReadOnlyField t index k := by
  cases t <;> simp [ReadOnlyField, Table.readOnlyEntry]

theorem State.fieldCount_of_writable {t : Table} (h : t.writableSlots ≠ 0) (s : State) : s.fieldCount t = t.allSlots := by
  cases t
  case snapshot | slots | pose | queues => exact absurd rfl h
  all_goals rfl

/-- Field `k` is the lowest masked one whose value lies outside its range or coding. -/
structure FirstOutOfRange (t : Table) (index : Nat) (mask : BitVec 32) (bytes : List Byte) (k : Nat) : Prop where
  masked : mask.getLsbD k = true
  out : outOfRange t index k (imageSlot bytes k) = true
  lowest : ∀ j < k, mask.getLsbD j = true → outOfRange t index j (imageSlot bytes j) = false

/-- What a WRITE does with its values refuses the lowest masked field that lies outside its range or coding (R145, R148). -/
def RefusesFields (t : Table) (body : Nat → BitVec 32 → List Byte → Verdict) : Prop :=
  ∀ index mask bytes k, index < t.entries → FirstOutOfRange t index mask bytes k → body index mask bytes = .refused .range (some k)

section
variable {t : Table} {index : Nat} {mask : BitVec 32} {bytes : List Byte} {k : Nat}

/-- Only a writable field has a range. -/
theorem FirstOutOfRange.lt (h : FirstOutOfRange t index mask bytes k) : k < t.writableSlots := by
  have hout := h.out
  unfold outOfRange at hout
  split at hout <;> simp_all [Table.writableSlots]

/-- A record's fields are decoded in order, and the first that fails ends it: either this is field `j`, or `j` decodes and the failing
one comes later. -/
theorem FirstOutOfRange.bind {α β : Type} {j : Nat} {decode : Slot → Option α} {old : α} {f : α → Except Nat β}
    (h : FirstOutOfRange t index mask bytes k) (hdecode : ∀ v, (decode v).isNone = outOfRange t index j v) (hj : j ≤ k)
    (hf : j < k → ∀ x, f x = .error k) : (maskedField mask bytes j decode old >>= f) = .error k := by
  have hdecode := hdecode (imageSlot bytes j)
  rcases hj.lt_or_eq with hlt | rfl
  · suffices hok : ∃ x, maskedField mask bytes j decode old = .ok x by
      obtain ⟨x, hx⟩ := hok
      rw [hx]
      exact hf hlt x
    unfold maskedField
    split
    next hmask =>
      rw [h.lowest j hlt hmask] at hdecode
      cases hx : decode (imageSlot bytes j) with
      | none => simp [hx] at hdecode
      | some x => exact ⟨x, rfl⟩
    next => exact ⟨old, rfl⟩
  · rw [h.out, Option.isNone_iff_eq_none] at hdecode
    simp only [maskedField, h.masked, if_true, hdecode]
    rfl

end

section
variable {index : Nat} {mask : BitVec 32} {bytes : List Byte} {k : Nat}

theorem StreamEntry.written_of_outOfRange (h : FirstOutOfRange .streams index mask bytes k) (e : StreamEntry) :
    e.written mask bytes = .error k :=
  h.bind decodeBool_isNone (Nat.zero_le k) fun h0 _ => h.bind decodeAccepts_isNone h0 fun h1 _ =>
    h.bind decodeSink_isNone h1 fun h2 _ => h.bind decodeAccess_isNone h2 fun h3 _ => absurd h.lt (not_lt.2 h3)

theorem Channel.written_of_outOfRange (h : FirstOutOfRange .channels index mask bytes k) (c : Channel) :
    c.written mask bytes = .error k :=
  h.bind decodeSource_isNone (Nat.zero_le k) fun h0 _ => h.bind decodeGroupField_isNone h0 fun h1 _ =>
    h.bind decodeRole_isNone h1 fun h2 _ => h.bind decodeBool_isNone h2 fun h3 _ => h.bind decodeSigned16_isNone h3 fun h4 _ =>
    h.bind (decodeIn_zero_isNone · 65535) h4 fun h5 _ => h.bind decodeRangeMode_isNone h5 fun h6 _ =>
    h.bind decodeSigned16_isNone h6 fun h7 _ => h.bind decodeSigned16_isNone h7 fun h8 _ => h.bind (fun _ => rfl) h8 fun h9 _ =>
    absurd h.lt (not_lt.2 h9)

theorem Group.written_of_outOfRange (h : FirstOutOfRange .groups index mask bytes k) (x : Group) :
    x.written (if index = 0 then .fast else .slow) mask bytes = .error k :=
  h.bind decodeScanMode_isNone (Nat.zero_le k) fun h0 _ => h.bind decodeTrigger_isNone h0 fun h1 _ =>
    h.bind (fun _ => rfl) h1 fun h2 _ => h.bind (decodeHold_isNone · index) h2 fun h3 _ => absurd h.lt (not_lt.2 h3)

theorem Panel.written_of_outOfRange (h : FirstOutOfRange .panels index mask bytes k) (p : Panel) : p.written mask bytes = .error k :=
  h.bind decodeDimension_isNone (Nat.zero_le k) fun h0 _ => h.bind decodeDimension_isNone h0 fun h1 _ =>
    h.bind (decodeIn_zero_isNone · 128) h1 fun h2 _ => h.bind (decodeIn_zero_isNone · 128) h2 fun h3 _ =>
    h.bind (fun _ => rfl) h3 fun h4 _ => h.bind (fun _ => rfl) h4 fun h5 _ => h.bind decodeBool_isNone h5 fun h6 _ =>
    h.bind (fun _ => rfl) h6 fun h7 _ => h.bind (fun _ => rfl) h7 fun h8 _ => absurd h.lt (not_lt.2 h8)

theorem Scanout.written_of_outOfRange (h : FirstOutOfRange .scanout index mask bytes k) (x : Scanout) :
    x.written mask bytes = .error k :=
  h.bind decodeBool_isNone (Nat.zero_le k) fun h0 _ => h.bind decodeRefresh_isNone h0 fun h1 _ => absurd h.lt (not_lt.2 h1)

theorem AudioRecord.written_of_outOfRange (h : FirstOutOfRange .audio index mask bytes k) (a : AudioRecord) :
    a.written mask bytes = .error k :=
  h.bind (decodeIn_isNone · 1 1023) (Nat.zero_le k) fun h0 _ => h.bind (decodeIn_isNone · 1 1023) h0 fun h1 _ =>
    h.bind (decodeIn_zero_isNone · 1022) h1 fun h2 _ => h.bind (decodeIn_isNone · 2 1024) h2 fun h3 _ =>
    h.bind (fun _ => rfl) h3 fun h4 _ => h.bind (fun _ => rfl) h4 fun h5 _ => h.bind (fun _ => rfl) h5 fun h6 _ =>
    h.bind (fun _ => rfl) h6 fun h7 _ => h.bind decodeBool_isNone h7 fun h8 _ => absurd h.lt (not_lt.2 h8)

/-- Both fields of the report record are levels (R29). -/
theorem not_firstOutOfRange_report : ¬ FirstOutOfRange .report index mask bytes k := fun h => by
  have hout := h.out
  simp [outOfRange] at hout

theorem StanceRecord.written_of_outOfRange (h : FirstOutOfRange .stances index mask bytes k) (x : StanceRecord) :
    x.written mask bytes = .error k :=
  h.bind (fun _ => rfl) (Nat.zero_le k) fun h0 _ => h.bind (fun _ => rfl) h0 fun h1 _ => h.bind (fun _ => rfl) h1 fun h2 _ =>
    h.bind decodeBool_isNone h2 fun h3 _ => h.bind decodeBool_isNone h3 fun h4 _ => h.bind decodeBool_isNone h4 fun h5 _ =>
    h.bind decodeBool_isNone h5 fun h6 _ => absurd h.lt (not_lt.2 h6)

theorem Power.limitsWritten_of_outOfRange (h : FirstOutOfRange .stanceLimits index mask bytes k) (p : Power) :
    p.limitsWritten mask bytes = .error k :=
  h.bind (fun _ => rfl) (Nat.zero_le k) fun h0 _ => h.bind decodeRampTime_isNone h0 fun h1 _ => absurd h.lt (not_lt.2 h1)

theorem Rule.written_of_outOfRange (h : FirstOutOfRange .rules index mask bytes k) (x : Rule) : x.written mask bytes = .error k :=
  h.bind decodeBool_isNone (Nat.zero_le k) fun h0 _ => h.bind decodeSlotNumber_isNone h0 fun h1 _ =>
    h.bind decodeStance_isNone h1 fun h2 _ => absurd h.lt (not_lt.2 h2)

theorem ranged_of_error {α : Type} {x : Except Nat α} (h : x = .error k) (f : α → Verdict) : ranged x f = .refused .range (some k) := by
  rw [h]
  rfl

end

/-- The WRITE of every writable table makes the checks that all share, and then refuses the first field out of range. -/
theorem writeRow_checks {t : Table} (h : t.writableSlots ≠ 0) : ∃ (act : Request → State → Verdict)
    (body : State → Nat → BitVec 32 → List Byte → Verdict), serviceAct t.writeRow = some act ∧
    (∀ r s, act r s = writeAct t t.readOnlyEntry (body s) r s) ∧ ∀ s, RefusesFields t (body s) := by
  cases t
  case streams => exact ⟨_, _, rfl, fun _ _ => rfl, fun s i m b k hi hk => (dif_pos hi).trans
    (ranged_of_error (StreamEntry.written_of_outOfRange hk _) _)⟩
  case channels => exact ⟨_, _, rfl, fun _ _ => rfl, fun s i m b k hi hk => (dif_pos hi).trans
    (ranged_of_error (Channel.written_of_outOfRange hk _) _)⟩
  case groups => exact ⟨_, _, rfl, fun _ _ => rfl, fun s i m b k hi hk => ranged_of_error (Group.written_of_outOfRange hk _) _⟩
  case panels => exact ⟨_, _, rfl, fun _ _ => rfl, fun s i m b k hi hk => ranged_of_error (Panel.written_of_outOfRange hk _) _⟩
  case scanout => exact ⟨_, _, rfl, fun _ _ => rfl, fun s i m b k hi hk => ranged_of_error (Scanout.written_of_outOfRange hk _) _⟩
  case audio => exact ⟨_, _, rfl, fun _ _ => rfl, fun s i m b k hi hk => ranged_of_error (AudioRecord.written_of_outOfRange hk _) _⟩
  case report => exact ⟨_, _, rfl, fun _ _ => rfl, fun s i m b k hi hk => absurd hk not_firstOutOfRange_report⟩
  case stances => exact ⟨_, _, rfl, fun _ _ => rfl, fun s i m b k hi hk => (dif_pos hi).trans
    (ranged_of_error (StanceRecord.written_of_outOfRange hk _) _)⟩
  case stanceLimits =>
    exact ⟨_, _, rfl, fun _ _ => rfl, fun s i m b k hi hk => ranged_of_error (Power.limitsWritten_of_outOfRange hk _) _⟩
  case rules => exact ⟨_, _, rfl, fun _ _ => rfl, fun s i m b k hi hk => (dif_pos hi).trans
    (ranged_of_error (Rule.written_of_outOfRange hk _) _)⟩
  all_goals exact absurd rfl h

section
variable {r : Request}

/-- Operands that end before the image does are refused (R146). -/
theorem writeAct_of_short {t : Table} (h : r.operands.length < 6 + 4 * t.writableSlots) (readOnly : Nat → Nat → Bool)
    (body : Nat → BitVec 32 → List Byte → Verdict) (s : State) : writeAct t readOnly body r s = .refused .unknown none := by
  unfold writeAct
  split
  next => rfl
  next => exact if_pos h

theorem writeOtherAct_of_short (h : r.operands.length < 6) (s : State) : writeOtherAct r s = .refused .unknown none := by
  rw [writeOtherAct, Request.mask_of_short h]
  cases r.table <;> rfl

theorem writeOtherAct_of_undefined (h : r.table = none) (s : State) : writeOtherAct r s = .refused .unknown none := by
  simp only [writeOtherAct, h]

theorem Table.writeRow_of_readOnly {t : Table} (h : t.writableSlots = 0) : t.writeRow = .write := by
  cases t <;> simp_all [Table.writableSlots, Table.writeRow]

/-- The operation of a request refuses it UNKNOWN, whatever the state. -/
def Request.RefusedUnknown (r : Request) : Prop := ∃ act, serviceAct r.service = some act ∧ ∀ s, act r s = .refused .unknown none

theorem Request.RefusedUnknown.of_row {row : Instr} {act : Request → State → Verdict} (hrow : r.service = row) (hact : serviceAct row = some act)
    (hrefused : ∀ s, act r s = .refused .unknown none) : r.RefusedUnknown := ⟨act, hrow ▸ hact, hrefused⟩

/-- A WRITE whose operands end before its image is refused UNKNOWN at its service, whatever its table (R146). -/
theorem Request.unknown_of_short_write {t : Table} (hop : r.op = 0x02#8) (htable : r.table = some t)
    (hshort : r.operands.length < 6 + 4 * t.writableSlots) : r.RefusedUnknown := by
  have hrow := Request.service_write hop htable
  by_cases hwritable : t.writableSlots = 0
  · rw [hwritable] at hshort
    exact .of_row (hrow.trans (Table.writeRow_of_readOnly hwritable)) rfl (writeOtherAct_of_short hshort)
  · obtain ⟨act, body, hact, hchecks, -⟩ := writeRow_checks hwritable
    exact .of_row hrow hact fun s => (hchecks r s).trans (writeAct_of_short hshort _ _ s)

/-- A request that its operation refuses UNKNOWN is answered so, and nothing else changes. -/
theorem exec_of_unknown (hunknown : r.RefusedUnknown) {rest : List Request} {s : State} (h : s.atService r rest) :
    ∃ t, exec r.service s = .next t ∧ Answered rest (r.refusal .unknown none) s t ∧ ChangesOnly [.requests, .answers] s t := by
  obtain ⟨act, hact, hrefused⟩ := hunknown
  exact ⟨_, exec_atService hact h rfl, State.afterService_refused (hrefused _)⟩

variable {table : Nat} {index : Byte} {mask : BitVec 32} {image : List Slot} {extra : List Byte}
  (hoperands : r.operands = writeOperands table index.toNat mask image extra)
include hoperands

/-- A WRITE whose image is whole: the mask, the read-only fields and the index are looked at in this order (R145). -/
theorem writeAct_of_whole_write {t : Table} (hlength : image.length = t.writableSlots) (readOnly : Nat → Nat → Bool)
    (body : Nat → BitVec 32 → List Byte → Verdict) (s : State) : writeAct t readOnly body r s =
      if (lowestField mask fun k => decide (s.fieldCount t ≤ k)).isSome then .refused .unknown none
      else ((lowestField mask fun k => decide (t.writableSlots ≤ k) || readOnly index.toNat k).elim
        (if t.entries ≤ index.toNat then .refused .range none
          else body index.toNat mask (image.flatMap (fun v => le 4 v.toNat) ++ extra))
        fun k => .refused .readOnly (some k)) := by
  have hbyte : (byteAt r.operands 1).toNat = index.toNat := by
    rw [Request.operands_cons_of_write hoperands]
    simp [byteAt]
  have hwhole : ¬ r.operands.length < 6 + 4 * t.writableSlots := by
    rw [Request.length_of_write hoperands, hlength]
    omega
  rw [writeAct, Request.mask_of_write hoperands]
  simp only [hbyte, if_neg hwhole, Request.drop_of_write hoperands]
  cases lowestField mask fun k => decide (t.writableSlots ≤ k) || readOnly index.toNat k <;> rfl

theorem writeOtherAct_of_write {t : Table} (htable : tableOf (BitVec.ofNat 8 table) = some t) (s : State) : writeOtherAct r s =
    if (lowestField mask fun k => decide (s.fieldCount t ≤ k)).isSome then .refused .unknown none else .refused .readOnly none := by
  simp only [writeOtherAct, Request.mask_of_write hoperands, Request.table_of_write hoperands, htable]

end

theorem tableOf_idxOf (t : Table) : tableOf (BitVec.ofNat 8 (allTables.idxOf t)) = some t := by
  cases t <;> decide

/-- A mask names a field past the table's. -/
theorem lowestField_past_isSome_iff {mask : BitVec 32} {n : Nat} : (lowestField mask fun k => decide (n ≤ k)).isSome = true ↔
    ∃ k ∈ List.range 32, mask.getLsbD k = true ∧ n ≤ k := by
  simp [lowestField, List.find?_isSome]

theorem lowestField_past_isSome_of_within {mask : BitVec 32} {n : Nat} (h : ∀ k ∈ List.range 32, mask.getLsbD k = true → k < n) :
    (lowestField mask fun k => decide (n ≤ k)).isSome = false := by
  rw [lowestField_eq_none_iff.2 fun k hk hmask => decide_eq_false (not_le.2 (h k hk hmask))]
  rfl

theorem not_readOnlyField_iff {t : Table} {index k : Nat} :
    (decide (t.writableSlots ≤ k) || t.readOnlyEntry index k) = false ↔ ¬ ReadOnlyField t index k := by
  rw [← readOnlyField_iff, Bool.not_eq_true]

/-- The values of a whole image, as its bytes hold them. -/
theorem FirstOutOfRange.of_image {t : Table} {index : Nat} {mask : BitVec 32} {image : List Slot} {k : Nat}
    (hlength : image.length = t.writableSlots) (hk : k < t.writableSlots) (hmask : mask.getLsbD k = true)
    (hout : outOfRange t index k (image.getD k 0) = true)
    (hlowest : ∀ j ∈ List.range k, mask.getLsbD j = true → outOfRange t index j (image.getD j 0) = false) (extra : List Byte) :
    FirstOutOfRange t index mask (image.flatMap (fun v => le 4 v.toNat) ++ extra) k := by
  have hslot : ∀ j ≤ k, imageSlot (image.flatMap (fun v => le 4 v.toNat) ++ extra) j = image.getD j 0 := fun j hj => by
    rw [imageSlot_flatMap_le (by omega), List.getD_eq_getElem]
  exact ⟨hmask, by rwa [hslot k le_rfl], fun j hj hbit => by rw [hslot j hj.le]; exact hlowest j (List.mem_range.2 hj) hbit⟩

end Sys2Proof.Machine

open Sys2Proof Sys2Proof.Machine

/-- Settles O35: the checks in the order of R145, by the table's row; and past them the first field whose coding fails. -/
theorem writeRefusals : Obligations.WriteRefusals := by
  refine ⟨fun tb index mask image extra hwritable hlength r hop hoperands rest s h => ?writable,
    fun tb index mask extra hreadOnly r hop hoperands rest s h => ?readOnly,
    fun tb r hop htable hshort rest s h => exec_of_unknown (Request.unknown_of_short_write hop htable hshort) h⟩
  case writable =>
    have htable : r.table = some tb := (Request.table_of_write hoperands).trans (tableOf_idxOf tb)
    obtain ⟨act, body, hact, hchecks, hrefuses⟩ := writeRow_checks hwritable
    rw [Request.service_write hop htable]
    have hverdict := (hchecks r (s.dequeued rest)).trans (writeAct_of_whole_write hoperands hlength _ _ _)
    rw [State.fieldCount_of_writable hwritable] at hverdict
    refine ⟨_, exec_atService hact h (Request.service_write hop htable),
      fun hpast => State.afterService_refused (hverdict.trans (if_pos (lowestField_past_isSome_iff.2 hpast))), fun hwithin => ?_⟩
    replace hverdict := hverdict.trans (if_neg (Bool.eq_false_iff.1 (lowestField_past_isSome_of_within hwithin)))
    refine ⟨fun k hk hmask hfield hlowest => ?field, fun hfree hindex => ?index, fun hfree hindex k hk hmask hout hlowest => ?range⟩
    case field =>
      rw [lowestField_eq_some hk hmask (readOnlyField_iff.2 hfield) fun j hj hbit => not_readOnlyField_iff.2 (hlowest j hj hbit)] at hverdict
      exact State.afterService_refused hverdict
    all_goals rw [lowestField_eq_none_iff.2 fun k hk hmask => not_readOnlyField_iff.2 (hfree k hk hmask)] at hverdict
    case index => exact State.afterService_refused (hverdict.trans (if_pos hindex))
    case range =>
      have hlt : k < tb.writableSlots := not_le.1 fun hle => hfree k hk hmask (.inl hle)
      exact State.afterService_refused (hverdict.trans ((if_neg (not_le.2 hindex)).trans
        (hrefuses _ _ _ _ k hindex (.of_image hlength hlt hmask hout hlowest extra))))
  case readOnly =>
    have htable : r.table = some tb := (Request.table_of_write hoperands).trans (tableOf_idxOf tb)
    have hrow : r.service = .write := (Request.service_write hop htable).trans (Table.writeRow_of_readOnly hreadOnly)
    have hverdict := writeOtherAct_of_write hoperands (tableOf_idxOf tb) (s.dequeued rest)
    have hcount : (s.dequeued rest).fieldCount tb = s.fieldCount tb := by cases tb <;> rfl
    rw [hcount] at hverdict
    have hunknown : (∃ k ∈ List.range 32, mask.getLsbD k = true ∧ s.fieldCount tb ≤ k) → _ := fun hpast =>
      State.afterService_refused (hverdict.trans (if_pos (lowestField_past_isSome_iff.2 hpast)))
    have hrefused : (∀ k ∈ List.range 32, mask.getLsbD k = true → k < s.fieldCount tb) → _ := fun hwithin =>
      State.afterService_refused (hverdict.trans (if_neg (Bool.eq_false_iff.1 (lowestField_past_isSome_of_within hwithin))))
    refine ⟨_, exec_atService rfl h hrow, ?_, fun hwithin => (hrefused hwithin).1, fun hpast => (hunknown hpast).1⟩
    by_cases hpast : ∃ k ∈ List.range 32, mask.getLsbD k = true ∧ s.fieldCount tb ≤ k
    · exact (hunknown hpast).2
    · exact (hrefused fun k hk hmask => not_le.1 fun hle => hpast ⟨k, hk, hmask, hle⟩).2
end

section
namespace Sys2Proof.Machine

/-! ### Requests that are not carried out (R144 to R146) -/

/-- An answer that is placed and is not DONE is the refusal or the BUSY of the verdict, which leaves the state alone. -/
theorem State.conclude_cases {r : Request} {u : State} {v : Verdict} {a : Answer}
    (hdeferred : ∀ t, v = .deferred t → t.mgmt.answers = u.mgmt.answers)
    (hanswers : (u.conclude r v).mgmt.answers = u.mgmt.answers ++ [a]) (hstatus : a.status ≠ .done) :
    (∃ why field, v = .refused why field ∧ a = r.refusal why field) ∨ ∃ field, v = .busy field ∧ a = r.turnedAway field := by
  have hlast : ∀ {xs : List Answer} {b : Answer}, xs ++ [b] = u.mgmt.answers ++ [a] → a = b := fun h =>
    (List.singleton_inj.1 (List.append_inj_right' h rfl)).symm
  cases v with
  | refused why field => exact .inl ⟨why, field, rfl, hlast hanswers⟩
  | busy field => exact .inr ⟨field, rfl, hlast hanswers⟩
  | done value t => exact absurd (congrArg Answer.status (hlast hanswers)) hstatus
  | deferred t => exact absurd (List.self_eq_append_right.1 ((hdeferred t rfl).symm.trans hanswers)) (List.cons_ne_nil _ _)

/-- An order that is answered later has placed no answer at its service (R153). -/
theorem State.judgeRequest_deferred_answers {c : Instr} {act : Request → State → Verdict} (hact : serviceAct c = some act) {r : Request}
    {u t : State} (h : u.judgeRequest act r = .deferred t) : t.mgmt.answers = u.mgmt.answers := by
  cases hmay : u.mayAccess r with
  | false =>
    rw [State.judgeRequest_of_barred hmay] at h
    cases h
  | true =>
    rw [State.judgeRequest_of_permitted hmay] at h
    have hpast := serviceAct_pastAccess hact r u
    rw [h] at hpast
    cases hpast with
    | deferred hanswers => exact hanswers

section
variable {r : Request}

theorem Request.service_of_undefined (h : r.op ∉ [0x01#8, 0x02#8, 0x03#8, 0x10#8, 0x11#8, 0x12#8, 0x13#8, 0x14#8, 0x15#8, 0x20#8, 0x21#8,
    0x22#8, 0x23#8, 0x30#8, 0x31#8]) : r.service = .read := by
  simp only [List.mem_cons, List.not_mem_nil, or_false, not_or, ← BitVec.toNat_inj] at h
  unfold Request.service
  split <;> simp_all

/-- READ is not the operation of the request, names no table, or lacks an operand. -/
theorem readAct_unknown (h : r.op ≠ 0x01#8 ∨ r.table = none ∨ r.operands.length < 2) (s : State) :
    readAct r s = .refused .unknown none := by
  unfold readAct
  split
  next => rfl
  next hop =>
    rcases lt_or_ge r.operands.length 2 with hshort | hlong
    · exact Request.needing_of_lt hshort _
    · have htable : r.table = none := (h.resolve_left hop).resolve_right (not_lt.2 hlong)
      rw [Request.needing_of_le hlong]
      simp only [htable]

/-- An operation of Table 11-5 whose operands end too soon is refused UNKNOWN before anything else is looked at (R146). -/
theorem Request.unknown_of_short {op : Byte} {n : Nat}
    (hp : (op, n) ∈ [(0x01#8, 2), (0x02#8, 6), (0x03#8, 3), (0x10#8, 4), (0x11#8, 4), (0x12#8, 4), (0x13#8, 4), (0x14#8, 1), (0x20#8, 1),
      (0x21#8, 1), (0x22#8, 2), (0x23#8, 2), (0x30#8, 1)]) (hop : r.op = op) (hshort : r.operands.length < n) : r.RefusedUnknown := by
  have hneeding : ∀ f : List Byte → Verdict, r.needing n f = .refused .unknown none := Request.needing_of_lt hshort
  simp only [List.mem_cons, List.not_mem_nil, or_false, Prod.mk.injEq] at hp
  rcases hp with ⟨rfl, rfl⟩ | ⟨rfl, rfl⟩ | ⟨rfl, rfl⟩ | ⟨rfl, rfl⟩ | ⟨rfl, rfl⟩ | ⟨rfl, rfl⟩ | ⟨rfl, rfl⟩ | ⟨rfl, rfl⟩ | ⟨rfl, rfl⟩ |
    ⟨rfl, rfl⟩ | ⟨rfl, rfl⟩ | ⟨rfl, rfl⟩ | ⟨rfl, rfl⟩
  · by_cases htable : r.table = some .snapshot
    · exact .of_row (Request.service_readSnapshot hop htable) rfl fun _ => hneeding _
    · exact .of_row (Request.service_read hop htable) rfl (readAct_unknown (.inr (.inr hshort)))
  · cases htable : r.table with
    | none => exact .of_row (Request.service_write_of_undefined hop htable) rfl (writeOtherAct_of_undefined htable)
    | some t => exact Request.unknown_of_short_write hop htable (by omega)
  all_goals exact .of_row (by simp only [Request.service, hop]; rfl) rfl fun _ => hneeding _

/-- R146: an operation that is not defined, a table that is not defined, or operands that end too soon. -/
theorem Request.unknown_of_undefinedOrShort (h : r.undefinedOrShort) : r.RefusedUnknown := by
  rcases h with hop | ⟨hop | hop, htable⟩ | ⟨⟨op, n⟩, hp, hop, hshort⟩
  · exact .of_row (Request.service_of_undefined hop) rfl (readAct_unknown (.inl fun hread => hop (by simp [hread])))
  · exact .of_row (Request.service_read hop (by simp [htable])) rfl (readAct_unknown (.inr (.inl htable)))
  · exact .of_row (Request.service_write_of_undefined hop htable) rfl (writeOtherAct_of_undefined htable)
  · exact Request.unknown_of_short hp hop hshort

end

end Sys2Proof.Machine

open Sys2Proof Sys2Proof.Machine

/-- Settles O31: an answer that is not DONE comes of a verdict that leaves the state alone, and R146's refusals are each row's first. -/
theorem refusedChangesNothing : Obligations.RefusedChangesNothing := by
  refine ⟨fun r rest s holdest => ?notCarriedOut, fun r rest s h hunknown => exec_of_unknown (Request.unknown_of_undefinedOrShort hunknown) h⟩
  case notCarriedOut =>
    obtain ⟨act, hact⟩ := Option.isSome_iff_exists.1 r.serviceAct_isSome
    have hrequests := State.conclude_requests (r := r) (State.judgeRequest_requests (r := r) hact (u := s.dequeued rest) rfl) rfl
    refine ⟨_, exec_oldest hact holdest rfl, hrequests, fun a hanswers hstatus => ?_⟩
    rcases State.conclude_cases (u := s.dequeued rest) (fun _ => State.judgeRequest_deferred_answers hact) hanswers hstatus with
      ⟨why, field, hverdict, rfl⟩ | ⟨field, hverdict, rfl⟩
    · exact ⟨(State.afterService_refused hverdict).2, rfl, rfl, rfl, fun hbusy => nomatch hbusy⟩
    · exact ⟨(State.afterService_busy hverdict).2, rfl, rfl, rfl, fun _ => rfl⟩
end

section
namespace Sys2Proof.Machine

/-! ### Event sets, kind by kind, and the level conditions (R157 to R159) -/

/-- The kinds in the order of Table 10-1. -/
def EventKind.table : List EventKind :=
  [.resetDone, .linkRecovered, .cellErrors, .clockFallback, .requestOverrun, .frameDiscarded, .frameTurnedAway, .frameAbandoned,
    .pictureStarved, .poseStale, .shiftClamped, .gyroGap, .scanOverrun, .snapshotReady, .sampleQueueFull, .rangeAlarm, .monitorStale,
    .stanceChanged, .playoutUnderrun, .playoutOverflow, .captureOverflow]

theorem EventKind.table_number (k : EventKind) : EventKind.table[k.number]? = some k := by cases k <;> rfl

theorem EventKind.number_inj {j k : EventKind} : j.number = k.number ↔ j = k :=
  ⟨fun h => Option.some.inj ((j.table_number.symm.trans (congrArg _ h)).trans k.table_number), congrArg _⟩

theorem EventKind.number_lt (k : EventKind) : k.number < 21 := by cases k <;> decide

/-- A kind's set holds its own mark alone. -/
theorem EventKind.getLsbD_mark (k : EventKind) (i : Nat) : k.mark.getLsbD i = decide (i = k.number) := by
  have hlt := k.number_lt
  rw [Bool.eq_iff_iff, EventKind.mark, BitVec.getLsbD_shiftLeft]
  simp only [BitVec.getLsbD_one, Bool.and_eq_true, Bool.not_eq_true', decide_eq_true_eq, decide_eq_false_iff_not]
  omega

theorem EventKind.getLsbD_markIf (k : EventKind) (b : Bool) (i : Nat) : (k.markIf b).getLsbD i = (b && decide (i = k.number)) := by
  cases b <;> simp [EventKind.getLsbD_mark]

/-- One set of kinds lies within another. -/
theorem and_not_eq_zero_iff {x y : EventSet} : x &&& ~~~y = 0 ↔ ∀ i, x.getLsbD i = true → y.getLsbD i = true := by
  constructor
  · intro h i hi
    have hbit : (x &&& ~~~y).getLsbD i = false := by rw [h]; simp
    have hlt := BitVec.lt_of_getLsbD hi
    simpa [hi, hlt] using hbit
  · intro h
    refine BitVec.eq_of_getLsbD_eq fun i hi => ?_
    have hbit := h i
    cases hx : x.getLsbD i <;> simp_all

theorem State.anySticky_iff {s : State} : s.anySticky = true ↔ ∃ k : Fin 16, s.sense.samples[k].sticky = true := by
  simp [State.anySticky, Vector.any_eq_true, Fin.exists_iff]

/-- The three level kinds and their conditions (R158). -/
theorem State.levelConditions_eq (s : State) : s.levelConditions =
    EventKind.clockFallback.markIf (s.clock.source == .fallback) ||| EventKind.rangeAlarm.markIf s.anySticky |||
      EventKind.monitorStale.markIf (s.power.stale != 0) := by
  simp [State.levelConditions, EventKind.markIf]

/-- Every level kind whose condition holds lies in a set (R158). -/
structure State.LevelsIn (x : EventSet) (s : State) : Prop where
  source : s.clock.source = .fallback → x.getLsbD EventKind.clockFallback.number = true
  sticky : s.anySticky = true → x.getLsbD EventKind.rangeAlarm.number = true
  stale : s.power.stale ≠ 0 → x.getLsbD EventKind.monitorStale.number = true

theorem State.levelsIn_iff {x : EventSet} {s : State} : s.LevelsIn x ↔ s.levelConditions &&& ~~~x = 0 := by
  simp only [and_not_eq_zero_iff, State.levelConditions_eq, BitVec.getLsbD_or, EventKind.getLsbD_markIf, Bool.or_eq_true,
    Bool.and_eq_true, decide_eq_true_eq, beq_iff_eq, bne_iff_ne]
  constructor
  · rintro ⟨hsource, hsticky, hstale⟩ i ((⟨h, rfl⟩ | ⟨h, rfl⟩) | ⟨h, rfl⟩)
    · exact hsource h
    · exact hsticky h
    · exact hstale h
  · exact fun h => ⟨fun hs => h _ (.inl (.inl ⟨hs, rfl⟩)), fun hs => h _ (.inl (.inr ⟨hs, rfl⟩)), fun hs => h _ (.inr ⟨hs, rfl⟩)⟩

end Sys2Proof.Machine
end

section
namespace Sys2Proof.Machine

/-! ### The event operations refused, and the level conditions kind by kind (R151, R158) -/

/-- A level condition is one of three kinds', and holds for that kind alone (R158). -/
theorem State.levelConditions_number (s : State) (k : EventKind) : s.levelConditions.getLsbD k.number =
    ((k == .clockFallback && s.clock.source == .fallback) ||
      (k == .rangeAlarm && (List.finRange 16).any fun j => s.sense.samples[j].sticky) || (k == .monitorStale && s.power.stale != 0)) := by
  have hsticky : s.anySticky = (List.finRange 16).any fun j => s.sense.samples[j].sticky := by
    rw [Bool.eq_iff_iff, State.anySticky_iff]
    simp
  have hkind : ∀ j : EventKind, decide (k.number = j.number) = (k == j) := fun j => by
    rw [Bool.eq_iff_iff, decide_eq_true_eq, EventKind.number_inj, beq_iff_eq]
  simp only [State.levelConditions_eq, BitVec.getLsbD_or, EventKind.getLsbD_markIf, hkind, hsticky, Bool.and_comm]

section
variable {r : Request} {x : BitVec 32} {extra : List Byte}

/-- A mark outside the 21 kinds names no set. -/
theorem eventSetOf_of_outside (hx : 2 ^ 21 ≤ x.toNat) (bytes : List Byte) : eventSetOf (le 4 x.toNat ++ bytes) = none := by
  have hbytes : x.toNat < 256 ^ 4 := x.isLt
  simp only [eventSetOf, take_le_append, ofLe_le, Nat.mod_eq_of_lt hbytes, if_neg (Nat.not_lt.2 hx)]

theorem eventSetAct_of_outside (hoperands : r.operands = le 4 x.toNat ++ extra) (hx : 2 ^ 21 ≤ x.toNat) (f : EventSet → State → State)
    (s : State) : eventSetAct f r s = .refused .range none := by
  rw [eventSetAct, Request.needing_of_le (by simp [hoperands]), hoperands, eventSetOf_of_outside hx]

theorem eventsInjectAct_of_outside (hoperands : r.operands = le 4 x.toNat ++ extra) (hx : 2 ^ 21 ≤ x.toNat) {s : State}
    (hlock : s.events.lock = false) : eventsInjectAct r s = .refused .range none := by
  rw [eventsInjectAct, Request.needing_of_le (by simp [hoperands]), hlock, eventSetAct_of_outside hoperands hx]
  rfl

end

end Sys2Proof.Machine

open Sys2Proof Sys2Proof.Machine

/-- Settles O45: EVENTS_CLEAR takes the named kinds away and gives back those of them that are level conditions. -/
theorem eventsClear : Obligations.EventsClear := by
  intro x extra r hop hoperands rest s h
  have hsettles := NoticeSettles.clearEvents x (s.dequeued rest)
  obtain ⟨hevents, hanswered, hparts⟩ := State.afterService_doneEvents (Q := [.requests, .answers, .raised, .notice])
    (eventSetAct_of_operands hoperands State.clearEvents (s.dequeued rest)) ((s.dequeued rest).clearEvents_changes x) (by decide) (by decide)
  refine ⟨_, exec_atService rfl h (by simp [Request.service, hop]), hanswered, by rwa [NoticeSettles, hevents], hparts, fun k => ?_⟩
  have hraised : ((s.dequeued rest).clearEvents x).events.raised = (s.events.raised &&& ~~~x) ||| (x &&& s.levelConditions) := rfl
  have hnot : (~~~x).getLsbD k.number = !x.getLsbD k.number := by simp [k.number_lt]
  rw [hevents, hraised, BitVec.getLsbD_or, BitVec.getLsbD_and, BitVec.getLsbD_and, hnot, State.levelConditions_number]

/-- Settles O46: both operations move the enabled set alone and settle the slot, and a set that names no kind is out of range. -/
theorem eventsEnableDisable : Obligations.EventsEnableDisable := by
  refine ⟨fun x extra r hop hoperands rest s h => ?enable, fun x extra r hop hoperands rest s h => ?disable,
    fun op x extra hmem hx r hr hoperands rest s h hlock => ?range⟩
  case enable =>
    have hsettles := NoticeSettles.enableEvents x (s.dequeued rest)
    obtain ⟨hevents, hanswered, hparts⟩ := State.afterService_doneEvents (Q := [.requests, .answers, .enabled, .notice])
      (eventSetAct_of_operands hoperands State.enableEvents (s.dequeued rest)) ((s.dequeued rest).enableEvents_changes x) (by decide)
      (by decide)
    exact ⟨_, exec_atService rfl h (by simp [Request.service, hop]), by rw [hevents]; rfl, by rwa [NoticeSettles, hevents], hanswered,
      hparts⟩
  case disable =>
    have hsettles := NoticeSettles.disableEvents x (s.dequeued rest)
    obtain ⟨hevents, hanswered, hparts⟩ := State.afterService_doneEvents (Q := [.requests, .answers, .enabled, .notice])
      (eventSetAct_of_operands hoperands State.disableEvents (s.dequeued rest)) ((s.dequeued rest).disableEvents_changes x) (by decide)
      (by decide)
    exact ⟨_, exec_atService rfl h (by simp [Request.service, hop]), by rw [hevents]; rfl, by rwa [NoticeSettles, hevents], hanswered,
      hparts⟩
  case range =>
    have hrefused : ∀ f : EventSet → State → State, eventSetAct f r (s.dequeued rest) = .refused .range none :=
      fun f => eventSetAct_of_outside hoperands hx f _
    subst hr
    have hops : r.op = 0x10#8 ∨ r.op = 0x11#8 ∨ r.op = 0x12#8 ∨ r.op = 0x13#8 := by simpa using hmem
    rcases hops with hop | hop | hop | hop
    · exact ⟨_, exec_atService (by simp [Request.service, hop]; rfl) h rfl, State.afterService_refused (hrefused State.clearEvents)⟩
    · exact ⟨_, exec_atService (by simp [Request.service, hop]; rfl) h rfl, State.afterService_refused (hrefused State.enableEvents)⟩
    · exact ⟨_, exec_atService (by simp [Request.service, hop]; rfl) h rfl, State.afterService_refused (hrefused State.disableEvents)⟩
    · exact ⟨_, exec_atService (by simp [Request.service, hop]; rfl) h rfl, State.afterService_refused
        (eventsInjectAct_of_outside hoperands hx (hlock.resolve_right (not_not.2 hop)))⟩
end

section
namespace Sys2Proof.Machine

/-! ### The law of the NOTICE slot and of the level kinds (R158, R163, R164) -/

/-- A ready NOTICE finds the gate open and a kind pending. -/
def Events.NoticeFits (e : Events) : Prop := e.notice = true → e.gateOpen = true ∧ e.pending ≠ 0

/-- The slot that an event settles fits, whatever it was before (R163). -/
theorem Events.settle_fits (old new : Events) : (old.settle new).NoticeFits := by
  intro hready
  have hready : (new.gateOpen && new.pending != 0 &&
    (old.notice || new.pending &&& ~~~old.pending != 0 || new.gateOpen && !old.gateOpen)) = true := hready
  simp only [Bool.and_eq_true, bne_iff_ne] at hready
  exact hready.1

/-- The parts that the law speaks of: the Event Unit's, and those that hold a level condition. -/
def noticeParts : List Part := [.clock, .samples, .marks, .raised, .enabled, .gate, .notice]

section
variable {s t : State} {P : List Part} {x : EventSet}

theorem noticeLaw_iff : NoticeLaw s ↔ s.events.NoticeFits ∧ s.LevelsIn s.events.raised :=
  and_congr_right fun _ => State.levelsIn_iff.symm

theorem NoticeLaw.fits (h : NoticeLaw s) : s.events.NoticeFits := (noticeLaw_iff.1 h).1

theorem NoticeLaw.levels (h : NoticeLaw s) : s.LevelsIn s.events.raised := (noticeLaw_iff.1 h).2

/-- Kinds are raised, and every level condition that has come to hold has its kind among them. -/
theorem NoticeLaw.of_raised (h : NoticeLaw s) (hraised : EventsRaised x s t) (henabled : t.events.enabled = s.events.enabled)
    (hgate : t.events.gateOpen = s.events.gateOpen)
    (source : t.clock.source = .fallback → s.clock.source = .fallback ∨ x.getLsbD EventKind.clockFallback.number = true)
    (sticky : t.anySticky = true → s.anySticky = true ∨ x.getLsbD EventKind.rangeAlarm.number = true)
    (stale : t.power.stale ≠ 0 → s.power.stale ≠ 0 ∨ x.getLsbD EventKind.monitorStale.number = true) : NoticeLaw t := by
  obtain ⟨hset, hnotice⟩ := hraised
  refine noticeLaw_iff.2 ⟨fun hready => ?_, ?_⟩
  · split at hnotice
    next hx =>
      have hpending : t.events.pending = s.events.pending := by simp [Events.pending, hset, henabled, hx]
      rw [hgate, hpending]
      exact h.fits (hnotice ▸ hready)
    next =>
      obtain ⟨hopen, hpending, -⟩ := hnotice.1 hready
      exact ⟨hopen, hpending⟩
  · simp only [hset]
    refine ⟨fun ht => ?_, fun ht => ?_, fun ht => ?_⟩ <;> rw [BitVec.getLsbD_or, Bool.or_eq_true]
    · exact (source ht).imp_left h.levels.source
    · exact (sticky ht).imp_left h.levels.sticky
    · exact (stale ht).imp_left h.levels.stale

theorem ChangesOnly.anySticky_eq (h : ChangesOnly P s t) (hP : Part.samples ∉ P) : t.anySticky = s.anySticky := by
  simp only [State.anySticky, h.samples_eq hP]

theorem ChangesOnly.stale_eq (h : ChangesOnly P s t) (hP : Part.marks ∉ P) : t.power.stale = s.power.stale := (h _ hP).2

/-- Kinds are raised while every level condition stands. -/
theorem NoticeLaw.raised_of_changes (h : NoticeLaw s) (hraised : EventsRaised x s t) (hst : ChangesOnly P s t)
    (hP : ∀ p ∈ [Part.clock, .samples, .marks, .enabled, .gate], p ∉ P) : NoticeLaw t :=
  h.of_raised hraised (hst.enabled_eq (hP _ (by decide))) (hst.gate_eq (hP _ (by decide)))
    (fun ht => .inl (hst.clock_eq (hP _ (by decide)) ▸ ht)) (fun ht => .inl (hst.anySticky_eq (hP _ (by decide)) ▸ ht))
    fun ht => .inl (hst.stale_eq (hP _ (by decide)) ▸ ht)

/-- A change of other parts keeps the law. -/
theorem NoticeLaw.of_changes (h : NoticeLaw s) (hst : ChangesOnly P s t) (hP : ∀ p ∈ noticeParts, p ∉ P) : NoticeLaw t := by
  have hraised : t.events.raised = s.events.raised := hst .raised (hP _ (by decide))
  have hnotice : t.events.notice = s.events.notice := hst .notice (hP _ (by decide))
  exact h.raised_of_changes (x := 0) ⟨by simp [hraised], by simp [hnotice]⟩ hst fun p hp => hP p (by revert p; decide)

/-- Nothing is raised, and no level condition comes to hold. -/
theorem NoticeLaw.of_events (h : NoticeLaw s) (hevents : t.events = s.events)
    (source : t.clock.source = .fallback → s.clock.source = .fallback) (sticky : t.anySticky = true → s.anySticky = true)
    (stale : t.power.stale = s.power.stale) : NoticeLaw t :=
  h.of_raised ((EventsRaised.refl s).congr rfl hevents) (by rw [hevents]) (by rw [hevents]) (fun ht => .inl (source ht))
    (fun ht => .inl (sticky ht)) fun ht => .inl (stale ▸ ht)

theorem NoticeLaw.raise (h : NoticeLaw s) (k : EventKind) : NoticeLaw (s.raise k) :=
  h.raised_of_changes (.raise k s) (s.raise_changes k) (by decide)

theorem NoticeLaw.raiseIf (h : NoticeLaw s) (b : Bool) (k : EventKind) : NoticeLaw (s.raiseIf b k) :=
  h.raised_of_changes (.raiseIf b k s) (s.raiseIf_changes b k) (by decide)

theorem NoticeLaw.elapse (h : NoticeLaw s) (d : Nat) : NoticeLaw (s.elapse d) := h.of_events rfl id id rfl

theorem NoticeLaw.runTo (h : NoticeLaw s) (d : Time) : NoticeLaw (s.runTo d) := by
  unfold State.runTo
  split
  · exact h
  · exact h.elapse _

/-! The operations on sets of kinds, and the gate (R160 to R162, R165): each settles the slot anew. -/

/-- An event that settles the slot keeps the law if every level kind whose condition holds is raised after it. -/
theorem NoticeLaw.settled {new : Events} (hlevels : s.LevelsIn new.raised) : NoticeLaw { s with events := s.events.settle new } :=
  noticeLaw_iff.2 ⟨Events.settle_fits _ _, hlevels.source, hlevels.sticky, hlevels.stale⟩

/-- A named level kind whose condition holds is raised again (R160). -/
theorem NoticeLaw.clearEvents (h : NoticeLaw s) (kinds : EventSet) : NoticeLaw (s.clearEvents kinds) := by
  refine .settled (State.levelsIn_iff.2 (and_not_eq_zero_iff.2 fun i hi => ?_))
  have hraised := and_not_eq_zero_iff.1 (State.levelsIn_iff.1 h.levels) i hi
  have hlt := BitVec.lt_of_getLsbD hi
  cases hnamed : kinds.getLsbD i <;> simp [hnamed, hi, hraised, hlt]

theorem NoticeLaw.enableEvents (h : NoticeLaw s) (kinds : EventSet) : NoticeLaw (s.enableEvents kinds) := .settled h.levels

theorem NoticeLaw.disableEvents (h : NoticeLaw s) (kinds : EventSet) : NoticeLaw (s.disableEvents kinds) := .settled h.levels

theorem NoticeLaw.setGate (h : NoticeLaw s) (opened : Bool) : NoticeLaw (s.setGate opened) := .settled h.levels

theorem NoticeLaw.injectEvents (h : NoticeLaw s) (kinds : EventSet) : NoticeLaw (s.injectEvents kinds) := by
  refine .settled ⟨fun hs => ?_, fun hs => ?_, fun hs => ?_⟩ <;> rw [BitVec.getLsbD_or, Bool.or_eq_true]
  · exact .inl (h.levels.source hs)
  · exact .inl (h.levels.sticky hs)
  · exact .inl (h.levels.stale hs)

/-! What the level conditions rest on: samples that complete or are cleared, the stance check's marks, and FALLBACK (R22, R23, R104, R129). -/

/-- The samples alone may have changed, and no sticky flag has come to be set. -/
theorem NoticeLaw.of_samples (h : NoticeLaw s) (hst : ChangesOnly [.channels, .samples] s t)
    (hsticky : ∀ k : Fin 16, t.sense.samples[k].sticky = true → s.sense.samples[k].sticky = true) : NoticeLaw t := by
  refine h.of_events (hst.events_eq (by decide)) (fun ht => hst.clock_eq (by decide) ▸ ht) ?_ (hst.stale_eq (by decide))
  simp only [State.anySticky_iff]
  exact fun ⟨k, hk⟩ => ⟨k, hsticky k hk⟩

theorem NoticeLaw.clearRange (h : NoticeLaw s) (slots : BitVec 16) : NoticeLaw (s.clearRange slots) := by
  refine h.of_samples ((s.clearRange_changes slots).mono (by decide)) fun k hk => ?_
  rw [State.clearRange_sample] at hk
  split at hk
  · cases hk
  · exact hk

theorem NoticeLaw.clearExtremes (h : NoticeLaw s) (slots : BitVec 16) : NoticeLaw (s.clearExtremes slots) := by
  refine h.of_samples ((s.clearExtremes_changes slots).mono (by decide)) fun k hk => ?_
  rw [State.clearExtremes_sample] at hk
  split at hk <;> exact hk

/-- A written slot keeps its sticky flag (R8). -/
theorem SampleState.rewritten_sticky (mask : BitVec 32) (old new : Channel) (x : SampleState) :
    (x.rewritten mask old new).sticky = x.sticky := by
  unfold SampleState.rewritten
  dsimp only
  repeat' split
  all_goals rfl

theorem NoticeLaw.writeChannel (h : NoticeLaw s) (k : Fin 16) (mask : BitVec 32) (c : Channel) : NoticeLaw (s.writeChannel k mask c) := by
  refine h.of_samples (s.writeChannel_changes k mask c) fun j hj => ?_
  have hsample : (s.writeChannel k mask c).sense.samples[j].sticky = s.sense.samples[j].sticky := by
    show (s.sense.samples.set k.val _)[j.val].sticky = _
    rw [Vector.getElem_set]
    split
    next hkj =>
      obtain rfl := Fin.ext hkj
      exact SampleState.rewritten_sticky _ _ _ _
    next => rfl
  exact hsample ▸ hj

/-- A sample that sets a sticky flag raises RANGE_ALARM (R22). -/
theorem NoticeLaw.takeSample (h : NoticeLaw s) (e : SampleEntry) : NoticeLaw (s.takeSample e) := by
  have hst := s.takeSample_changes e
  refine h.of_raised (s.takeSample_raised e) (hst.enabled_eq (by decide)) (hst.gate_eq (by decide))
    (fun ht => .inl (hst.clock_eq (by decide) ▸ ht)) (fun ht => ?_) fun ht => .inl (hst.stale_eq (by decide) ▸ ht)
  obtain ⟨k, hk⟩ := State.anySticky_iff.1 ht
  by_cases hself : k = e.slot
  · subst hself
    cases hold : s.sense.samples[e.slot].sticky
    · exact .inr (by simp only [BitVec.getLsbD_or, EventKind.getLsbD_markIf, hk]; rfl)
    · exact .inl (State.anySticky_iff.2 ⟨_, hold⟩)
  · rw [State.takeSample_sample_of_ne hself] at hk
    exact .inl (State.anySticky_iff.2 ⟨k, hk⟩)

theorem NoticeLaw.takeSamples (h : NoticeLaw s) (es : List SampleEntry) : NoticeLaw (s.takeSamples es) := by
  induction es generalizing s with
  | nil => exact h
  | cons e es ih => exact ih (h.takeSample e)

/-- The check that sets a stale mark raises MONITOR_STALE (R104, R158). -/
theorem NoticeLaw.setMarks (h : NoticeLaw s) : NoticeLaw s.setMarks := by
  have hraised : EventsRaised (EventKind.monitorStale.markIf (s.setMarks.power.stale != 0)) s s.setMarks := by
    simp only [State.setMarks, State.raiseIf_power]
    exact EventsRaised.raiseIf_of_events rfl _ _
  have hst := s.setMarks_changes
  refine h.of_raised hraised (hst.enabled_eq (by decide)) (hst.gate_eq (by decide)) (fun ht => .inl (hst.clock_eq (by decide) ▸ ht))
    (fun ht => .inl (hst.anySticky_eq (by decide) ▸ ht)) fun ht => .inr ?_
  simpa [EventKind.getLsbD_markIf] using ht

/-- The fall to FALLBACK raises CLOCK_FALLBACK (R129). -/
theorem NoticeLaw.fallen (h : NoticeLaw s) (n : Nat) : NoticeLaw (s.fallen n) :=
  h.of_raised (x := EventKind.clockFallback.mark) ((EventsRaised.raise .clockFallback _).congr rfl rfl) rfl rfl (fun _ => .inr rfl) .inl .inl

end
end Sys2Proof.Machine
end

section
namespace Sys2Proof.Machine

/-! ### The blocks' work keeps the law of the NOTICE slot and of the level kinds -/

section
variable {s t : State}

/-! The Sense Engine (R12 to R17, R21, R24, R36). -/

theorem NoticeLaw.setGroup (h : NoticeLaw s) (g : ScanGroup) (x : Group) : NoticeLaw (s.setGroup g x) :=
  h.of_changes (s.setGroup_changes g x) (by decide)

theorem NoticeLaw.arbitrate (h : NoticeLaw s) : NoticeLaw s.arbitrate := h.of_changes s.arbitrate_changes (by decide)

theorem NoticeLaw.standAt (h : NoticeLaw s) (g : ScanGroup) (p : Pass) (stepped : Bool) (rest : List (Fin 16)) :
    NoticeLaw (s.standAt g p stepped rest) := by
  have hcompleted := h.setGroup g (s.group g).completed
  rw [State.standAt]
  split
  · cases g
    · exact hcompleted.raised_of_changes (State.integratePass_raised _ _ _ _) (State.integratePass_changes _ _ _ _) (by decide)
    · rw [State.passComplete_slow]
      split
      · exact hcompleted.raised_of_changes (State.refillSnapshot_raised _ _) (State.refillSnapshot_changes _ _) (by decide)
      · exact hcompleted
  · exact h.setGroup g _

theorem NoticeLaw.walk (h : NoticeLaw s) (g : ScanGroup) (p : Pass) (todo : List (Fin 16)) : NoticeLaw (s.walk g p todo) := by
  rw [State.walk_eq]
  exact (h.takeSamples _).standAt _ _ _ _

theorem NoticeLaw.trigger (h : NoticeLaw s) (g : ScanGroup) : NoticeLaw (s.trigger g) := by
  unfold State.trigger
  dsimp only
  split
  · exact h
  · exact h.raise _
  · exact h.raise _
  · split
    · exact h.walk _ _ _
    · split
      · exact h.setGroup _ _
      · exact h.walk _ _ _

theorem NoticeLaw.latchTriggers (h : NoticeLaw s) : NoticeLaw s.latchTriggers := by
  have one : ∀ (g : ScanGroup) (u : State), NoticeLaw u → NoticeLaw (u.latchTrigger g) := by
    intro g u hu
    unfold State.latchTrigger
    split
    · exact hu.trigger g
    · exact hu
  rw [State.latchTriggers_eq]
  exact (one .slow _ (one .fast s h)).arbitrate

theorem NoticeLaw.timerTrigger (h : NoticeLaw s) (g : ScanGroup) : NoticeLaw (s.timerTrigger g) := ((h.setGroup g _).trigger g).arbitrate

theorem NoticeLaw.burstDone (h : NoticeLaw s) (raw : SixAxes) : NoticeLaw (s.burstDone raw) := by
  have hfree : NoticeLaw s.freePort := h.of_changes s.freePort_changes (by decide)
  unfold State.burstDone
  split
  · exact h
  · dsimp only
    split
    · exact hfree.arbitrate
    · exact (hfree.walk _ _ _).arbitrate

theorem NoticeLaw.conversionDone (h : NoticeLaw s) (raw : BitVec 12) : NoticeLaw (s.conversionDone raw) := by
  have hfree : NoticeLaw s.freeConverter := h.of_changes s.freeConverter_changes (by decide)
  unfold State.conversionDone
  split
  · exact h
  · dsimp only
    split
    · exact hfree.arbitrate
    · split
      · exact hfree.arbitrate
      · rw [State.sampleComplete_eq, State.walkOn_eq _ _ _ _ rfl]
        exact (((hfree.takeSample _).takeSamples _).standAt _ _ _ _).arbitrate

theorem NoticeLaw.takeSnapshot (h : NoticeLaw s) : NoticeLaw s.takeSnapshot := by
  have hmarked : NoticeLaw s.markTaken := h.of_changes s.markTaken_changes (by decide)
  unfold State.takeSnapshot
  split
  · exact h
  · dsimp only
    split
    · exact (hmarked.walk _ _ _).arbitrate
    · exact hmarked

theorem NoticeLaw.startGroup (h : NoticeLaw s) (g : ScanGroup) : NoticeLaw (s.startGroup g) := by
  unfold State.startGroup
  split
  · dsimp only
    split
    · exact (h.setGroup _ _).of_changes (State.clearHistory_changes _) (by decide)
    · exact h.setGroup _ _
  · split
    · exact (h.trigger g).arbitrate
    · exact h
  · exact h
  · exact h

/-! The Frame Store and the Scanout Unit (R45 to R53, R58 to R60, R69). -/

theorem NoticeLaw.frameLatch (h : NoticeLaw s) : NoticeLaw s.frameLatch := by
  have hlatched : NoticeLaw s.promote.latchScanout :=
    (h.of_changes s.promote_changes (by decide)).of_changes (State.latchScanout_changes _) (by decide)
  rw [State.frameLatch_eq]
  exact (((hlatched.raiseIf _ _).raiseIf _ _).raiseIf _ _).latchTriggers

theorem NoticeLaw.panelOn (h : NoticeLaw s) (e : Eye) : NoticeLaw (s.panelOn e) := by
  have hon := h.of_changes (s.setPanel_changes e { (s.panel e).dark with power := .on }) (by decide)
  unfold State.panelOn
  dsimp only
  split
  · exact hon.frameLatch
  · exact hon

theorem NoticeLaw.setSlot (h : NoticeLaw s) (i : Fin 3) (f : FrameSlot) : NoticeLaw (s.setSlot i f) :=
  h.of_changes (s.setSlot_changes i f) (by decide)

theorem NoticeLaw.openFrame (h : NoticeLaw s) (f : BitVec 16) (noShift : Bool) (time : Time) : NoticeLaw (s.openFrame f noShift time).2 := by
  unfold State.openFrame
  dsimp only
  split
  · exact (h.raise _).setSlot _ _
  · split
    · exact h.setSlot _ _
    · exact h.raise _

theorem NoticeLaw.supersede (h : NoticeLaw s) (i : Fin 3) : NoticeLaw (s.supersede i) := h.of_changes (s.supersede_changes i) (by decide)

theorem NoticeLaw.completeSlot (h : NoticeLaw s) (i : Fin 3) : NoticeLaw (s.completeSlot i) := by
  unfold State.completeSlot
  dsimp only
  split
  · refine NoticeLaw.setSlot ?_ _ _
    split
    · exact h.supersede _
    · exact h
  · exact (h.setSlot i _).raise _

theorem NoticeLaw.supersedeIn (h : NoticeLaw s) (ph : SlotPhase) : NoticeLaw (s.supersedeIn ph) := by
  unfold State.supersedeIn
  split
  · exact h.supersede _
  · exact h

theorem NoticeLaw.closeFrame (h : NoticeLaw s) (f : BitVec 16) : NoticeLaw (s.closeFrame f).2 := by
  by_cases hcloses : ∃ k, s.slotIn .filling = some k ∧ s.frames.slots[k].frame = some f
  · obtain ⟨k, hk, hframe⟩ := hcloses
    have hclosing : NoticeLaw (s.closing k) := (h.supersedeIn .closing).setSlot k _
    rw [State.closeFrame_of_filling hk hframe]
    dsimp only
    split
    · exact hclosing.completeSlot k
    · exact hclosing
  · rw [State.closeFrame_of_stray fun k hk hframe => hcloses ⟨k, hk, hframe⟩]
    exact h

theorem NoticeLaw.completeWrite (h : NoticeLaw s) (i : Fin 3) : NoticeLaw (s.completeWrite i) := by
  cases htake : takeWrite i s.frames.writes with
  | none =>
    rw [State.completeWrite_of_none htake]
    exact h
  | some taken =>
    obtain ⟨w, rest⟩ := taken
    have hstored : NoticeLaw (s.withStore rest (s.frames.dram.store w.place w.rows)) := h.of_events rfl id id rfl
    rw [State.completeWrite_of_some htake]
    split
    · exact (hstored.setSlot i _).completeSlot i
    · exact hstored.setSlot i _

theorem NoticeLaw.abandonFilling (h : NoticeLaw s) : NoticeLaw s.abandonFilling :=
  h.raised_of_changes s.abandonFilling_raised s.abandonFilling_changes (by decide)

theorem NoticeLaw.emptyAllSlots (h : NoticeLaw s) : NoticeLaw s.emptyAllSlots :=
  h.raised_of_changes s.emptyAllSlots_raised s.emptyAllSlots_changes (by decide)

theorem NoticeLaw.writeStream (h : NoticeLaw s) (i : Fin 32) (e : StreamEntry) : NoticeLaw (s.writeStream i e) := by
  have hset : NoticeLaw (s.setStream i e) := h.of_events rfl id id rfl
  unfold State.writeStream
  dsimp only
  split
  · exact hset.abandonFilling
  · exact hset

theorem NoticeLaw.writePanel (h : NoticeLaw s) (e : Eye) (structural : Bool) (p : Panel) : NoticeLaw (s.writePanel e structural p) := by
  have hset : NoticeLaw (s.panelSet e p) := h.of_changes (s.panelSet_changes e p) (by decide)
  cases structural with
  | false => exact hset
  | true => exact hset.emptyAllSlots

/-! The Sound Unit and the request queue (R82, R85, R95, R142). -/

theorem NoticeLaw.takeSound (h : NoticeLaw s) (k : Sink) (pairs : List SoundPair) : NoticeLaw (s.takeSound k pairs).2 := by
  unfold State.takeSound
  split
  · exact h
  · exact (h.of_changes (s.setPlayout_changes k _) (by decide)).raiseIf _ _

theorem NoticeLaw.outputTick (h : NoticeLaw s) : NoticeLaw s.outputTick :=
  h.raised_of_changes s.outputTick_raised s.outputTick_changes (by decide)

theorem NoticeLaw.offerCapture (h : NoticeLaw s) (e : CaptureEntry) : NoticeLaw (s.offerCapture e) := by
  have hmissed : NoticeLaw s.sampleMissed := h.of_events rfl id id rfl
  rcases lt_or_ge s.sound.capture.length 1024 with hroom | hfull
  · rw [State.offerCapture_of_room hroom]
    exact h.of_events rfl id id rfl
  · rw [State.offerCapture_of_full hfull]
    exact hmissed.raiseIf _ _

theorem NoticeLaw.microphone (h : NoticeLaw s) (raw : BitVec 16) : NoticeLaw (s.microphone raw) := by
  have hstepped : NoticeLaw s.micStepped := h.of_changes s.micStepped_changes (by decide)
  cases hactive : s.captureActive with
  | false =>
    rw [State.microphone_of_inactive hactive]
    exact hstepped
  | true =>
    rw [State.microphone_of_active hactive]
    exact hstepped.offerCapture _

theorem NoticeLaw.takeAsk (h : NoticeLaw s) (r : Request) : NoticeLaw (s.takeAsk r).2 := by
  rcases lt_or_ge s.mgmt.requests.length 8 with hroom | hfull
  · rw [State.takeAsk_of_room hroom]
    exact h.of_changes (s.withMgmt_changes _) (by decide)
  · rw [State.takeAsk_of_full hfull]
    exact h.raise _

/-! The Power Unit: the stale marks are set by the check alone (R101, R104 to R111). -/

theorem NoticeLaw.withPower (h : NoticeLaw s) {p : Power} (hstale : p.stale = s.power.stale) : NoticeLaw (s.withPower p) :=
  h.of_events rfl id id hstale

theorem NoticeLaw.changePower (h : NoticeLaw s) {p : Power} (hstale : p.stale = s.power.stale) : NoticeLaw (s.changePower p) :=
  (h.withPower hstale).of_changes (State.takePush_changes _ _ _) (by decide)

theorem NoticeLaw.changeSettles (h : NoticeLaw s) {p : Power} (hstale : p.stale = s.power.stale) (k : EventKind) :
    NoticeLaw ((s.changePower p).raise k).settleAnswer :=
  ((h.changePower hstale).raise k).of_changes (State.settleAnswer_changes _) (by decide)

theorem NoticeLaw.changeAtOnce (h : NoticeLaw s) (x : Stance) : NoticeLaw (s.changeAtOnce x) := by
  unfold State.changeAtOnce
  exact h.changeSettles (by rfl) .stanceChanged

theorem NoticeLaw.evaluate (h : NoticeLaw s) : NoticeLaw s.evaluate := by
  unfold State.evaluate
  dsimp only
  split
  · exact h.changeAtOnce _
  · split
    · split
      · exact h.changeAtOnce _
      · exact h.changePower rfl
    · exact h

theorem NoticeLaw.rampStep (h : NoticeLaw s) (r : Ramp) : NoticeLaw (s.rampStep r) := by
  unfold State.rampStep
  dsimp only
  split
  · exact h.changeSettles (by rfl) .stanceChanged
  · exact h.changePower rfl

theorem NoticeLaw.stanceCheck (h : NoticeLaw s) : NoticeLaw s.stanceCheck := by
  have hdue : NoticeLaw (s.withPower { s.power with checkDue := s.clock.now + 10000 }) := h.withPower rfl
  rw [State.stanceCheck_eq]
  dsimp only
  split
  · split
    · exact hdue.setMarks.rampStep _
    · exact hdue.setMarks
  · exact hdue.setMarks.evaluate

theorem NoticeLaw.writeRule (h : NoticeLaw s) (i : Fin 8) (x : Rule) : NoticeLaw (s.writeRule i x) :=
  NoticeLaw.evaluate (h.withPower rfl)

/-! The upstream lane: a granted NOTICE leaves its slot not ready (R164). -/

theorem NoticeLaw.notReady (h : NoticeLaw s) : NoticeLaw { s with events := { s.events with notice := false } } :=
  noticeLaw_iff.2 ⟨nofun, h.levels.source, h.levels.sticky, h.levels.stale⟩

theorem NoticeLaw.setSender (h : NoticeLaw s) (x : Sender) : NoticeLaw { s with sender := x } :=
  h.of_changes (s.sender_changes x) (by decide)

theorem NoticeLaw.build (h : NoticeLaw s) {c : CyclicClass} {cell : UpCell} (ht : s.build c = some (cell, t)) : NoticeLaw t := by
  cases c with
  | voice => exact h.of_changes (State.buildVoice_changes ht) (by decide)
  | answer => exact h.of_changes (State.buildAnswer_changes ht) (by decide)
  | notice =>
    obtain ⟨-, rfl⟩ := Prod.mk.inj (Option.some.inj ht)
    exact h.notReady

theorem NoticeLaw.cellBoundary (h : NoticeLaw s) : NoticeLaw s.cellBoundary := by
  unfold State.cellBoundary State.grant State.grantCyclic
  split
  · split
    · split
      next hmotion => exact (h.of_changes (State.buildMotion_changes hmotion) (by decide)).setSender _
      next => exact h
    · split
      · split
        next hbuild => exact (h.build hbuild).setSender _
        next => exact h
      · exact h.setSender _
  · exact h.setSender _

/-! The Tether Receiver and the Clock Supervisor (R117 to R122, R128). -/

theorem NoticeLaw.setLink (h : NoticeLaw s) (l : Link) : NoticeLaw (s.setLink l) := h.of_changes (s.setLink_changes l) (by decide)

theorem NoticeLaw.goodHeader (h : NoticeLaw s) : NoticeLaw s.goodHeader := by
  have hcounted : NoticeLaw s.headerCounted := h.raised_of_changes s.headerCounted_raised s.headerCounted_changes (by decide)
  rw [State.goodHeader_eq]
  split
  · exact hcounted.cellBoundary
  · exact hcounted

theorem NoticeLaw.enterLost (h : NoticeLaw s) : NoticeLaw s.enterLost :=
  h.raised_of_changes s.enterLost_raised s.enterLost_changes (by decide)

theorem NoticeLaw.badHeader (h : NoticeLaw s) : NoticeLaw s.badHeader := by
  unfold State.badHeader
  split
  · exact h
  · exact h.setLink _
  · exact h.setLink _
  · split
    · exact h.enterLost
    · exact h.setLink _

theorem NoticeLaw.discardCell (h : NoticeLaw s) (d : Discard) : NoticeLaw (s.discardCell d) := by
  have hcounted : ∀ u, NoticeLaw u → NoticeLaw (u.countDiscarded d) := fun u hu => (hu.setLink _).raise _
  unfold State.discardCell
  dsimp only
  split
  · exact hcounted _ h.badHeader
  · exact hcounted _ h.goodHeader

theorem NoticeLaw.discardFramed (h : NoticeLaw s) (framed : List Byte) : NoticeLaw (s.discardFramed framed) := by
  unfold State.discardFramed
  split
  · split
    · exact h.discardCell _
    · exact h
  · exact h

theorem NoticeLaw.clockStops (h : NoticeLaw s) (cut : List Byte) : NoticeLaw (s.clockStops cut) := by
  unfold State.clockStops
  split
  · refine NoticeLaw.setLink ?_ _
    split
    · exact h
    · exact h.discardFramed cut
  · exact h

theorem NoticeLaw.clockReturns (h : NoticeLaw s) : NoticeLaw s.clockReturns := h.of_changes s.clockReturns_changes (by decide)

theorem NoticeLaw.clockLossExpires (h : NoticeLaw s) : NoticeLaw s.clockLossExpires := by
  cases hloss : s.link.clockLoss with
  | none => simpa only [State.clockLossExpires, hloss] using h
  | some n =>
    have hcounted : NoticeLaw (s.lossCounted n) := (h.elapse _).setLink _
    rw [State.clockLossExpires_eq hloss, State.clockLost]
    split
    · exact hcounted
    · exact hcounted.setLink _
    · exact hcounted.enterLost
    · exact hcounted.setLink _

theorem NoticeLaw.setClock (h : NoticeLaw s) {c : Clock} (hsource : c.source = s.clock.source) : NoticeLaw { s with clock := c } :=
  h.of_events rfl (fun ht => hsource ▸ ht) id rfl

theorem NoticeLaw.crystalStops (h : NoticeLaw s) : NoticeLaw s.crystalStops := by
  unfold State.crystalStops
  split
  · exact h.setClock rfl
  · exact h

theorem NoticeLaw.crystalLossExpires (h : NoticeLaw s) : NoticeLaw s.crystalLossExpires := by
  cases hwatch : s.clock.watch with
  | none => simpa only [State.crystalLossExpires, hwatch] using h
  | some n =>
    rw [State.crystalLossExpires_eq hwatch]
    exact (h.fallen n).of_changes (State.darkened_changes _) (by decide)

/-! The three resets (R130 to R132, R158, R166). -/

theorem NoticeLaw.holdExpires (h : NoticeLaw s) : NoticeLaw s.holdExpires :=
  h.raised_of_changes s.holdExpires_raised s.holdExpires_changes (by decide)

/-- A tether reset raises the one level kind whose condition outlives it. -/
theorem noticeLaw_tetherReset (s : State) : NoticeLaw s.tetherReset := by
  have hsticky : ∀ t : State, t.sense = Sense.default s.clock.now → t.anySticky = false := fun t ht => by
    rw [Bool.eq_false_iff, Ne, State.anySticky_iff, ht]
    rintro ⟨k, hk⟩
    simp [Sense.default, SampleState.cleared] at hk
  rw [State.tetherReset_eq]
  refine noticeLaw_iff.2 ⟨nofun, fun hfallback => ?_, fun hs => ?_, fun hs => absurd rfl hs⟩
  · have hsource : s.clock.source = .fallback := hfallback
    simp only [hsource]
    decide
  · rw [hsticky _ rfl] at hs
    cases hs

theorem noticeLaw_powerOnReset (s : State) : NoticeLaw s.powerOnReset := reset_notice.of_events rfl nofun id rfl

end
end Sys2Proof.Machine
end

section
namespace Sys2Proof.Machine

/-! ### The services keep the law of the NOTICE slot and of the level kinds (R144 to R165) -/

/-- An operation on a set of kinds leaves what the set's own operation leaves, or refuses. -/
theorem eventSetAct_keeps {P : State → Prop} {s : State} {f : EventSet → State → State} (hf : ∀ k, P (f k s)) (r : Request) :
    (eventSetAct f r s).Keeps P := by
  refine .needing fun b => ?_
  split
  · trivial
  · exact hf _

section
variable {s : State}

theorem NoticeLaw.readSnapshotAct (h : NoticeLaw s) (r : Request) : (readSnapshotAct r s).Keeps NoticeLaw := by
  refine .needing fun b => ?_
  split
  · trivial
  · exact h.takeSnapshot

theorem NoticeLaw.writeStreamsAct (h : NoticeLaw s) (r : Request) : (writeStreamsAct r s).Keeps NoticeLaw := by
  refine .writeAct fun i m b _ => ?_
  split
  · exact .ranged fun e _ => .unlessConflict (.doneWrite (h.writeStream _ e)) _ _
  · trivial

theorem NoticeLaw.writeChannelsAct (h : NoticeLaw s) (r : Request) : (writeChannelsAct r s).Keeps NoticeLaw := by
  refine .writeAct fun i m b _ => ?_
  split
  · refine .ranged fun c _ => .unlessConflict ?_ _ _
    split
    · trivial
    · split
      · trivial
      · exact .doneWrite (h.writeChannel _ m c)
  · trivial

theorem NoticeLaw.writePanelsAct (h : NoticeLaw s) (r : Request) : (writePanelsAct r s).Keeps NoticeLaw := by
  refine .writeAct fun i m b _ => .ranged fun p _ => ?_
  split
  · trivial
  · exact .doneWrite (h.writePanel _ _ p)

theorem NoticeLaw.writeRulesAct (h : NoticeLaw s) (r : Request) : (writeRulesAct r s).Keeps NoticeLaw := by
  refine .writeAct fun i m b _ => ?_
  split
  · exact .ranged fun x _ => .doneWrite (h.writeRule _ x)
  · trivial

theorem NoticeLaw.eventsInjectAct (h : NoticeLaw s) (r : Request) : (eventsInjectAct r s).Keeps NoticeLaw := by
  refine .needing fun b => ?_
  split
  · trivial
  · exact eventSetAct_keeps h.injectEvents r

theorem NoticeLaw.gateAct (h : NoticeLaw s) (r : Request) : (gateAct r s).Keeps NoticeLaw := by
  refine .needing fun b => ?_
  split
  · exact h.setGate false
  · exact h.setGate true
  · trivial

theorem NoticeLaw.groupStartAct (h : NoticeLaw s) (r : Request) : (groupStartAct r s).Keeps NoticeLaw := by
  refine .needing fun b => ?_
  split
  · trivial
  · split
    · trivial
    · exact h.startGroup _

theorem NoticeLaw.stanceOrderAct (h : NoticeLaw s) (r : Request) : (stanceOrderAct r s).Keeps NoticeLaw := by
  refine .needing fun b => ?_
  split
  · trivial
  next x _ =>
    have hevaluated : NoticeLaw (s.withPower { s.power with ordered := x }).evaluate := NoticeLaw.evaluate (h.withPower rfl)
    split
    · trivial
    · dsimp only
      split
      · exact hevaluated
      · exact hevaluated

/-- Every service keeps the law: fourteen rows reach the parts that it speaks of. -/
theorem NoticeLaw.service (h : NoticeLaw s) {c : Instr} {act : Request → State → Verdict} (hact : serviceAct c = some act) :
    NoticeLaw (s.serve c act) := by
  refine State.serve_keeps (fun u m hu => hu.of_changes (u.withMgmt_changes m) (by decide)) (fun r u hu => ?_) h
  have hchanges := serviceAct_changes hact r u
  have helsewhere : (∀ p ∈ noticeParts, p ∉ serviceParts c) → (act r u).Keeps NoticeLaw := fun hP =>
    hchanges.mono fun _ ht => hu.of_changes ht hP
  cases c <;> cases hact
  case readSnapshot => exact hu.readSnapshotAct r
  case writeStreams => exact hu.writeStreamsAct r
  case writeChannels => exact hu.writeChannelsAct r
  case writePanels => exact hu.writePanelsAct r
  case writeRules => exact hu.writeRulesAct r
  case eventsClear => exact eventSetAct_keeps hu.clearEvents r
  case eventsEnable => exact eventSetAct_keeps hu.enableEvents r
  case eventsDisable => exact eventSetAct_keeps hu.disableEvents r
  case eventsInject => exact hu.eventsInjectAct r
  case gate => exact hu.gateAct r
  case groupStart => exact hu.groupStartAct r
  case rangeClear => exact .needing fun _ => hu.clearRange _
  case extremesClear => exact .needing fun _ => hu.clearExtremes _
  case stanceOrder => exact hu.stanceOrderAct r
  all_goals exact helsewhere (by decide)

end
end Sys2Proof.Machine
end

section
namespace Sys2Proof.Machine

/-! ### The law of the link, of the lane and of the clocks (R117 to R120, R125, R128, R129, R131) -/

/-- The link's timers, runs and lane inputs in each state (Table 7-1). -/
structure Link.Lawful (l : Link) : Prop where
  hold : l.state = .lost ↔ l.hold.isSome
  good : l.goodRun ≤ 7
  bad : l.badRun ≤ 3
  badRun : l.state ≠ .up → l.badRun = 0
  goodRun : l.state = .up ∨ l.state = .down → l.goodRun = 0
  loss : l.clockLoss.isSome → l.clockPresent = false
  down : l.state = .down → l.clockPresent = false
  lane : l.state = .training ∨ l.state = .up → l.clockPresent = true ∨ l.clockLoss.isSome

/-- The crystal watch runs only while a crystal source is without its crystal, and the Cause record names FALLBACK (R128, R129). -/
structure ClockLaw (s : State) : Prop where
  watch : s.clock.watch.isSome → s.clock.source = .crystal ∧ s.clock.crystalPresent = false
  fallback : s.cause.fallback = (s.clock.source == .fallback)

/-- A cell is on the wire while cells may leave (R125). -/
def WireLaw (s : State) : Prop := s.link.state = .up → s.clock.source = .crystal → s.sender.wire.isSome

/-- The parts that the law speaks of. -/
def linkParts : List Part := [.clock, .link, .lane, .cause, .wire]

section
variable {s t : State} {P : List Part} {l : Link}

theorem linkLaw_iff : LinkLaw s ↔ s.link.Lawful ∧ ClockLaw s ∧ WireLaw s := by
  constructor
  · rintro ⟨hold, good, bad, badRun, goodRun, loss, down, lane, wire, watch, fallback⟩
    exact ⟨⟨hold, good, bad, badRun, goodRun, loss, down, lane⟩, ⟨watch, fallback⟩, wire⟩
  · rintro ⟨⟨hold, good, bad, badRun, goodRun, loss, down, lane⟩, ⟨watch, fallback⟩, wire⟩
    exact ⟨hold, good, bad, badRun, goodRun, loss, down, lane, wire, watch, fallback⟩

theorem LinkLaw.lawful (h : LinkLaw s) : s.link.Lawful := (linkLaw_iff.1 h).1

theorem LinkLaw.clocks (h : LinkLaw s) : ClockLaw s := (linkLaw_iff.1 h).2.1

theorem LinkLaw.wire (h : LinkLaw s) : WireLaw s := (linkLaw_iff.1 h).2.2

/-- Outside UP no cell leaves. -/
theorem linkLaw_of_not_up (hl : s.link.Lawful) (hclocks : ClockLaw s) (hup : s.link.state ≠ .up) : LinkLaw s :=
  linkLaw_iff.2 ⟨hl, hclocks, fun h => absurd h hup⟩

theorem Link.Lawful.no_hold (h : l.Lawful) (hstate : l.state ≠ .lost) : ¬ l.hold.isSome := mt h.hold.2 hstate

/-- The counters are no part of the law. -/
theorem Link.Lawful.setCounters (h : l.Lawful) (c : LinkCounters) : ({ l with counters := c } : Link).Lawful := { h with }

theorem ClockLaw.of_changes (h : ClockLaw s) (hst : ChangesOnly P s t) (hclock : Part.clock ∉ P) (hcause : Part.cause ∉ P) :
    ClockLaw t := by
  have hcause : t.cause = s.cause := hst .cause hcause
  obtain ⟨watch, fallback⟩ := h
  exact ⟨by rwa [hst.clock_eq hclock], by rwa [hst.clock_eq hclock, hcause]⟩

theorem Link.Lawful.of_changes (h : s.link.Lawful) (hst : ChangesOnly P s t) (hlink : Part.link ∉ P) (hlane : Part.lane ∉ P) :
    t.link.Lawful := by
  obtain ⟨state, goodRun, badRun, hold⟩ := hst .link hlink
  obtain ⟨present, loss⟩ := hst .lane hlane
  constructor <;> simp only [state, goodRun, badRun, hold, present, loss]
  exacts [h.hold, h.good, h.bad, h.badRun, h.goodRun, h.loss, h.down, h.lane]

/-- A change of other parts keeps the law. -/
theorem LinkLaw.of_changes (h : LinkLaw s) (hst : ChangesOnly P s t) (hP : ∀ p ∈ linkParts, p ∉ P) : LinkLaw t := by
  obtain ⟨state, -⟩ := hst .link (hP _ (by decide))
  have hwire : t.sender.wire = s.sender.wire := hst .wire (hP _ (by decide))
  refine linkLaw_iff.2 ⟨h.lawful.of_changes hst (hP _ (by decide)) (hP _ (by decide)),
    h.clocks.of_changes hst (hP _ (by decide)) (hP _ (by decide)), ?_⟩
  rw [WireLaw, state, hst.clock_eq (hP _ (by decide)), hwire]
  exact h.wire

/-- Another state of the link, which is not newly UP. -/
theorem LinkLaw.setLink (h : LinkLaw s) (hl : l.Lawful) (hup : l.state = .up → s.link.state = .up) : LinkLaw (s.setLink l) :=
  linkLaw_iff.2 ⟨hl, h.clocks.of_changes (s.setLink_changes l) (by decide) (by decide), fun hup' => h.wire (hup hup')⟩

/-! Time that passes, and the crystal (R128, R129). -/

theorem Link.Lawful.elapse (h : s.link.Lawful) (d : Nat) : (s.elapse d).link.Lawful :=
  { h with
    loss := fun hloss => h.loss (by simpa [State.elapse] using hloss)
    lane := fun hstate => (h.lane hstate).imp_right fun hloss => by simpa [State.elapse] using hloss }

theorem ClockLaw.elapse (h : ClockLaw s) (d : Nat) : ClockLaw (s.elapse d) :=
  { h with watch := fun hwatch => h.watch (by simpa [State.elapse] using hwatch) }

theorem LinkLaw.elapse (h : LinkLaw s) (d : Nat) : LinkLaw (s.elapse d) :=
  linkLaw_iff.2 ⟨h.lawful.elapse d, h.clocks.elapse d, h.wire⟩

theorem LinkLaw.runTo (h : LinkLaw s) (d : Time) : LinkLaw (s.runTo d) := by
  unfold State.runTo
  split
  · exact h
  · exact h.elapse _

theorem LinkLaw.setClock (h : LinkLaw s) {c : Clock} (hsource : c.source = s.clock.source)
    (hwatch : c.watch.isSome → s.clock.source = .crystal ∧ c.crystalPresent = false) : LinkLaw { s with clock := c } :=
  linkLaw_iff.2 ⟨h.lawful, ⟨fun hw => hsource ▸ hwatch hw, h.clocks.fallback.trans (by rw [hsource])⟩,
    fun hup hc => h.wire hup (hsource ▸ hc)⟩

/-- Under FALLBACK the watch does not run (R128, log 22). -/
theorem LinkLaw.crystalStops (h : LinkLaw s) : LinkLaw s.crystalStops := by
  unfold State.crystalStops
  split
  · refine h.setClock rfl fun hwatch => ?_
    by_cases hsource : s.clock.source = .crystal
    · exact ⟨hsource, rfl⟩
    · simp [hsource] at hwatch
  · exact h

theorem LinkLaw.crystalReturns (h : LinkLaw s) : LinkLaw s.crystalReturns := h.setClock rfl nofun

theorem LinkLaw.fallen (h : LinkLaw s) (n : Nat) : LinkLaw (s.fallen n) :=
  linkLaw_iff.2 ⟨h.lawful.elapse _, ⟨nofun, rfl⟩, nofun⟩

theorem LinkLaw.crystalLossExpires (h : LinkLaw s) : LinkLaw s.crystalLossExpires := by
  cases hwatch : s.clock.watch with
  | none => simpa only [State.crystalLossExpires, hwatch] using h
  | some n =>
    rw [State.crystalLossExpires_eq hwatch]
    exact (h.fallen n).of_changes (State.darkened_changes _) (by decide)

/-! The upstream lane (R125 to R127). -/

/-- A class that is ready has a cell to send (R127). -/
theorem State.build_of_ready {c : CyclicClass} (h : s.ready c = true) : ∃ cell t, s.build c = some (cell, t) := by
  cases c with
  | voice =>
    obtain ⟨_, _, -, hbuild⟩ := State.buildVoice_of_ready h
    exact ⟨_, _, hbuild⟩
  | answer =>
    obtain ⟨_, -, hbuild⟩ := State.buildAnswer_of_ready h
    exact ⟨_, _, hbuild⟩
  | notice => exact ⟨_, _, rfl⟩

theorem State.buildMotion_of_ready (h : s.report.motionReady = true) : ∃ cell t, s.buildMotion = some (cell, t) := by
  obtain ⟨base, q, hqueue⟩ : ∃ base q, s.report.queue = base :: q :=
    List.exists_cons_of_ne_nil (by rintro hnil; simp [Report.motionReady, hnil] at h)
  exact ⟨_, _, State.buildMotion_cons hqueue⟩

/-- A grant puts a cell on the wire, FILL if no class is ready (R126). -/
theorem State.grant_wire (s : State) : s.grant.sender.wire.isSome := by
  unfold State.grant
  split
  next hmotion =>
    obtain ⟨cell, t, hbuild⟩ := State.buildMotion_of_ready hmotion
    rw [hbuild]
    rfl
  next =>
    split
    next c hfind =>
      obtain ⟨cell, t, hbuild⟩ := State.build_of_ready (List.find?_some (p := fun c => s.ready c) hfind)
      rw [State.grantCyclic, hbuild]
      rfl
    next => rfl

/-- A boundary meets the wire's law whatever went before it. -/
theorem wireLaw_cellBoundary (s : State) : WireLaw s.cellBoundary := by
  intro hup hcrystal
  obtain ⟨hstate, -⟩ := s.cellBoundary_changes .link (by decide)
  rw [hstate] at hup
  rw [s.cellBoundary_changes.clock_eq (by decide)] at hcrystal
  rw [State.cellBoundary_of_maySend hup hcrystal]
  exact s.grant_wire

theorem linkLaw_cellBoundary (hl : s.link.Lawful) (hclocks : ClockLaw s) : LinkLaw s.cellBoundary :=
  linkLaw_iff.2 ⟨hl.of_changes s.cellBoundary_changes (by decide) (by decide),
    hclocks.of_changes s.cellBoundary_changes (by decide) (by decide), wireLaw_cellBoundary s⟩

theorem LinkLaw.cellBoundary (h : LinkLaw s) : LinkLaw s.cellBoundary := linkLaw_cellBoundary h.lawful h.clocks

/-! Headers and discards (R118 to R122). -/

/-- The recovered clock is there when a header arrives, so that a link may become UP (R117). -/
theorem Link.Lawful.headerCounted (h : s.link.Lawful) (hpresent : s.link.clockPresent = true) : s.headerCounted.link.Lawful := by
  rcases s.headerCases with hdown | hup | ⟨hstate, hrun⟩ | ⟨htraining, hrun⟩ | ⟨hlost, hrun⟩
  · rw [State.headerCounted_of_down hdown]
    exact h
  · rw [State.headerCounted_of_up hup]
    exact { h with bad := Nat.zero_le _, badRun := fun _ => rfl }
  · rw [State.headerCounted_of_short hstate hrun]
    exact { h with
      good := hrun
      goodRun := fun hother => by rcases hstate with hstate | hstate <;> simp [hstate] at hother }
  · rw [State.headerCounted_of_trained htraining hrun]
    exact { h with
      hold := iff_of_false nofun (h.no_hold (by simp [htraining]))
      good := Nat.zero_le _
      bad := Nat.zero_le _
      badRun := fun _ => rfl
      goodRun := fun _ => rfl
      down := nofun
      lane := fun _ => .inl hpresent }
  · rw [State.headerCounted_of_recovered hlost hrun]
    exact { h with
      hold := iff_of_false nofun nofun
      good := Nat.zero_le _
      bad := Nat.zero_le _
      badRun := fun _ => rfl
      goodRun := fun _ => rfl
      down := nofun
      lane := fun _ => .inl hpresent }

/-- A link that becomes UP opens the lane, unless a cell is on the wire still (R125, log 30). -/
theorem WireLaw.headerCounted (h : WireLaw s) (hopens : s.opensLane = false) : WireLaw s.headerCounted := by
  intro hup hcrystal
  have hst := s.headerCounted_changes
  have hwire : s.headerCounted.sender.wire = s.sender.wire := hst .wire (by decide)
  rw [hst.clock_eq (by decide)] at hcrystal
  rw [hwire]
  have hcell : (s.link.state = .training ∨ s.link.state = .lost) → 7 ≤ s.link.goodRun → s.sender.wire.isSome := by
    intro hstate hrun
    rw [Option.isSome_iff_ne_none]
    exact fun hnone => Bool.eq_false_iff.1 hopens (State.opensLane_iff.2 ⟨hstate, hrun, hcrystal, hnone⟩)
  rcases s.headerCases with hdown | hup | ⟨hstate, hrun⟩ | ⟨htraining, hrun⟩ | ⟨hlost, hrun⟩
  · rw [State.headerCounted_of_down hdown, hdown] at hup
    cases hup
  · exact h hup hcrystal
  · rw [State.headerCounted_of_short hstate hrun] at hup
    exact h hup hcrystal
  · exact hcell (.inl htraining) hrun
  · exact hcell (.inr hlost) hrun

theorem LinkLaw.goodHeader (h : LinkLaw s) (hpresent : s.link.clockPresent = true) : LinkLaw s.goodHeader := by
  have hl := h.lawful.headerCounted hpresent
  have hclocks := h.clocks.of_changes s.headerCounted_changes (by decide) (by decide)
  rw [State.goodHeader_eq]
  split
  next => exact linkLaw_cellBoundary hl hclocks
  next hopens => exact linkLaw_iff.2 ⟨hl, hclocks, h.wire.headerCounted (Bool.eq_false_iff.2 hopens)⟩

theorem State.enterLost_link (s : State) : s.enterLost.link = s.markedLost.link :=
  ((State.abandonFilling_changes _).link_eq (by decide)).trans ((State.darkened_changes _).link_eq (by decide))

/-- The hold timer starts at the entry to LOST (R119). -/
theorem linkLaw_enterLost (hloss : s.link.clockLoss.isSome → s.link.clockPresent = false) (hclocks : ClockLaw s) :
    LinkLaw s.enterLost := by
  have hl : s.markedLost.link.Lawful := {
    hold := iff_of_true rfl rfl
    good := Nat.zero_le _
    bad := Nat.zero_le _
    badRun := fun _ => rfl
    goodRun := fun _ => rfl
    loss := hloss
    down := nofun
    lane := nofun }
  refine linkLaw_of_not_up ?_ (hclocks.of_changes s.enterLost_changes (by decide) (by decide)) ?_
  · rw [State.enterLost_link]
    exact hl
  · rw [State.enterLost_link]
    nofun

theorem Link.Lawful.restartGood (h : l.Lawful) : ({ l with goodRun := 0 } : Link).Lawful :=
  { h with good := Nat.zero_le _, goodRun := fun _ => rfl }

theorem LinkLaw.badHeader (h : LinkLaw s) : LinkLaw s.badHeader := by
  unfold State.badHeader
  split
  · exact h
  · exact h.setLink h.lawful.restartGood id
  · exact h.setLink h.lawful.restartGood id
  next hup =>
    split
    · exact linkLaw_enterLost h.lawful.loss h.clocks
    next hrun => exact h.setLink { h.lawful with bad := not_le.1 hrun, badRun := fun hnot => absurd hup hnot } id

theorem LinkLaw.countDiscarded (h : LinkLaw s) (d : Discard) : LinkLaw (s.countDiscarded d) :=
  h.of_changes (s.countDiscarded_changes d) (by decide)

theorem LinkLaw.discardCell (h : LinkLaw s) (hpresent : s.link.clockPresent = true) (d : Discard) : LinkLaw (s.discardCell d) := by
  by_cases hd : d = .badHeader
  · subst hd
    exact h.badHeader.countDiscarded _
  · rw [State.discardCell_of_good hd]
    exact (h.goodHeader hpresent).countDiscarded d

theorem State.clockPresent_of_receiving (h : s.receiving = true) : s.link.clockPresent = true := by
  obtain ⟨-, hpresent⟩ := Bool.and_eq_true_iff.1 h
  exact hpresent

theorem LinkLaw.discardFramed (h : LinkLaw s) (framed : List Byte) : LinkLaw (s.discardFramed framed) := by
  unfold State.discardFramed
  split
  next hreceiving =>
    split
    · exact h.discardCell (State.clockPresent_of_receiving hreceiving) _
    · exact h
  next => exact h

/-! The recovered clock (R117, R118, R120). -/

theorem Link.Lawful.laneLost (h : l.Lawful) : ({ l with clockPresent := false, clockLoss := some 0 } : Link).Lawful :=
  { h with loss := fun _ => rfl, down := fun _ => rfl, lane := fun _ => .inr rfl }

theorem LinkLaw.clockStops (h : LinkLaw s) (cut : List Byte) : LinkLaw (s.clockStops cut) := by
  have hstops : ∀ u, LinkLaw u → LinkLaw (u.setLink { u.link with clockPresent := false, clockLoss := some 0 }) :=
    fun u hu => hu.setLink hu.lawful.laneLost id
  unfold State.clockStops
  split
  · refine hstops _ ?_
    split
    · exact h
    · exact h.discardFramed cut
  · exact h

theorem LinkLaw.clockReturns (h : LinkLaw s) : LinkLaw s.clockReturns := by
  cases hpresent : s.link.clockPresent with
  | true =>
    have hsame : s.clockReturns = s := if_pos hpresent
    rwa [hsame]
  | false =>
    by_cases hdown : s.link.state = .down
    · rw [State.clockReturns_of_down hpresent hdown]
      refine LinkLaw.setLink (s := s) h { h.lawful with
        hold := iff_of_false nofun (h.lawful.no_hold (by simp [hdown]))
        good := Nat.zero_le _
        badRun := fun _ => h.lawful.badRun (by simp [hdown])
        goodRun := fun _ => rfl
        loss := nofun
        down := nofun
        lane := fun _ => .inl rfl } nofun
    · rw [State.clockReturns_of_not_down hpresent hdown]
      exact h.setLink { h.lawful with loss := nofun, down := fun hstate => absurd hstate hdown, lane := fun _ => .inl rfl } id

/-- The expiry ends the timer, and leaves no state in which the timer must run (Table 7-1). -/
theorem LinkLaw.clockLossExpires (h : LinkLaw s) : LinkLaw s.clockLossExpires := by
  cases hloss : s.link.clockLoss with
  | none => simpa only [State.clockLossExpires, hloss] using h
  | some n =>
    have habsent : s.link.clockPresent = false := h.lawful.loss (by simp [hloss])
    have hclocks : ClockLaw (s.lossCounted n) :=
      (h.clocks.elapse _).of_changes (State.setLane_changes _ _ _) (by decide) (by decide)
    have hl := h.lawful
    rw [State.clockLossExpires_eq hloss]
    cases hstate : s.link.state with
    | down =>
      rw [State.clockLost_of_down (s := s.lossCounted n) hstate]
      exact linkLaw_of_not_up { hl with
        loss := nofun
        lane := fun hother => by rcases hother with hother | hother <;> cases hstate.symm.trans hother } hclocks
        fun hup => nomatch hstate.symm.trans hup
    | training =>
      rw [State.clockLost_of_training (s := s.lossCounted n) hstate]
      exact linkLaw_of_not_up { hl with
        hold := iff_of_false nofun (hl.no_hold (by simp [hstate]))
        good := Nat.zero_le _
        badRun := fun _ => hl.badRun (by simp [hstate])
        goodRun := fun _ => rfl
        loss := nofun
        down := fun _ => habsent
        lane := nofun } (hclocks.of_changes (State.setLink_changes _ _) (by decide) (by decide)) nofun
    | lost =>
      rw [State.clockLost_of_lost (s := s.lossCounted n) hstate]
      exact linkLaw_of_not_up { hl.restartGood with
        loss := nofun
        lane := fun hother => by rcases hother with hother | hother <;> cases hstate.symm.trans hother }
        (hclocks.of_changes (State.setLink_changes _ _) (by decide) (by decide)) fun hup => nomatch hstate.symm.trans hup
    | up =>
      rw [State.clockLost_of_up (s := s.lossCounted n) hstate]
      exact linkLaw_enterLost nofun hclocks

/-! The resets (R120, R130, R131). -/

/-- A link without runs or hold timer, TRAINING or DOWN by the recovered clock (R118, R120). -/
theorem Link.lawful_of_left (hloss : l.clockLoss.isSome → l.clockPresent = false) : ({ l with
    state := if l.clockPresent then .training else .down
    goodRun := 0
    badRun := 0
    hold := none } : Link).Lawful := by
  refine ⟨iff_of_false ?hold nofun, Nat.zero_le _, Nat.zero_le _, fun _ => rfl, fun _ => rfl, hloss, ?down, ?lane⟩
  all_goals cases hpresent : l.clockPresent <;> simp

/-- The hold expiry leaves LOST for DOWN or TRAINING, by the recovered clock. -/
theorem LinkLaw.holdExpires (h : LinkLaw s) : LinkLaw s.holdExpires := by
  obtain ⟨x, hx⟩ := State.stopGroup_withSense .fast s.holdCounted
  rw [State.holdExpires_eq, hx]
  refine linkLaw_of_not_up (Link.lawful_of_left h.lawful.loss) ⟨h.clocks.watch, h.clocks.fallback⟩ ?_
  show (if s.link.clockPresent then LinkState.training else .down) ≠ .up
  split <;> nofun

theorem LinkLaw.tetherReset (h : LinkLaw s) : LinkLaw s.tetherReset := by
  rw [State.tetherReset_eq]
  exact linkLaw_iff.2 ⟨h.lawful.setCounters _, ⟨h.clocks.watch, h.clocks.fallback⟩, h.wire⟩

theorem linkLaw_powerOnReset (s : State) : LinkLaw s.powerOnReset := by
  have hl : s.powerOnReset.link.Lawful :=
    Link.lawful_of_left (l := ⟨.down, 0, 0, s.link.clockPresent, none, none, LinkCounters.zero⟩) nofun
  refine linkLaw_of_not_up hl ⟨fun hwatch => ⟨rfl, ?_⟩, rfl⟩ ?_
  · cases hpresent : s.clock.crystalPresent <;> simp_all [State.powerOnReset]
  · show (if s.link.clockPresent then LinkState.training else .down) ≠ .up
    split <;> nofun

end
end Sys2Proof.Machine
end

section
namespace Sys2Proof.Machine

/-! ### The commands keep the laws of the NOTICE slot, the level kinds, the link and the clocks -/

/-- The laws of the NOTICE slot and the level kinds, and of the link, the lane and the clocks. -/
structure SignalsLaw (s : State) : Prop where
  notice : NoticeLaw s
  link : LinkLaw s

section
variable {s t : State} {P : List Part}

/-- A change outside the link and the clocks that keeps the Event Unit's law. -/
theorem SignalsLaw.of_notice (h : SignalsLaw s) (hnotice : NoticeLaw t) (hst : ChangesOnly P s t) (hP : ∀ p ∈ linkParts, p ∉ P) :
    SignalsLaw t := ⟨hnotice, h.link.of_changes hst hP⟩

/-- A change of other blocks keeps the laws. -/
theorem SignalsLaw.of_others (h : SignalsLaw s) (hst : ChangesOnly P s t) (hP : ∀ p ∈ noticeParts ++ linkParts, p ∉ P) : SignalsLaw t :=
  h.of_notice (h.notice.of_changes hst fun p hp => hP p (List.mem_append_left _ hp)) hst fun p hp => hP p (List.mem_append_right _ hp)

theorem SignalsLaw.runTo (h : SignalsLaw s) (d : Time) : SignalsLaw (s.runTo d) := ⟨h.notice.runTo d, h.link.runTo d⟩

/-- No service reaches the link or the clocks. -/
theorem LinkLaw.service (h : LinkLaw s) {c : Instr} {act : Request → State → Verdict} (hact : serviceAct c = some act) :
    LinkLaw (s.serve c act) := by
  refine State.serve_keeps (fun u m hu => hu.of_changes (u.withMgmt_changes m) (by decide)) (fun r u hu => ?_) h
  have hparts : ∀ p ∈ linkParts, p ∉ serviceParts c := by
    cases c <;> cases hact <;> decide
  exact (serviceAct_changes hact r u).mono fun _ ht => hu.of_changes ht hparts

theorem SignalsLaw.service (h : SignalsLaw s) {c : Instr} {act : Request → State → Verdict} (hact : serviceAct c = some act) :
    SignalsLaw (s.serve c act) := ⟨h.notice.service hact, h.link.service hact⟩

theorem SignalsLaw.caughtUp (h : SignalsLaw s) : SignalsLaw s.caughtUp :=
  State.caughtUp_keeps (fun _ _ hact _ hs => hs.service hact) h

/-- A timed event finds the state that the passing of time has left. -/
theorem SignalsLaw.timed (h : SignalsLaw s) (due : Option Time) {f : State → State} (hf : ∀ u, SignalsLaw u → SignalsLaw (f u)) :
    SignalsLaw (s.timed due f) := by
  unfold State.timed
  split
  · split
    · exact hf _ (h.runTo _)
    · exact h
  · exact h

/-- A timed event outside the link and the clocks. -/
theorem SignalsLaw.timed_of_notice (h : SignalsLaw s) {due : Option Time} {f : State → State}
    (hnotice : ∀ u, NoticeLaw u → NoticeLaw (f u)) (hf : ∀ u, ChangesOnly P u (f u)) (hP : ∀ p ∈ linkParts, p ∉ P) :
    SignalsLaw (s.timed due f) :=
  h.timed due fun u hu => hu.of_notice (hnotice u hu.notice) (hf u) hP

theorem SignalsLaw.whenReceiving (h : SignalsLaw s) {f : State → State} (hf : s.link.clockPresent = true → SignalsLaw (f s)) :
    SignalsLaw (s.whenReceiving f) := by
  unfold State.whenReceiving
  split
  next hreceiving => exact hf (State.clockPresent_of_receiving hreceiving)
  next => exact h

theorem SignalsLaw.goodHeader (h : SignalsLaw s) (hpresent : s.link.clockPresent = true) : SignalsLaw s.goodHeader :=
  ⟨h.notice.goodHeader, h.link.goodHeader hpresent⟩

/-- A cell that arrives keeps the laws when its delivery does, outside the link and the clocks. -/
theorem SignalsLaw.arrive (h : SignalsLaw s) (hpresent : s.link.clockPresent = true) {i : Fin 32} {admits : StreamEntry → Bool}
    {deliver : StreamEntry → State → Bool × State} (hnotice : ∀ e u, NoticeLaw u → NoticeLaw (deliver e u).2)
    (hd : ∀ e u, ChangesOnly P u (deliver e u).2) (hP : ∀ p ∈ linkParts, p ∉ P) : SignalsLaw (s.arrive i admits deliver) := by
  have hhanded : SignalsLaw s.goodHeader.handOn := (h.goodHeader hpresent).of_others (State.handOn_changes _) (by decide)
  unfold State.arrive
  dsimp only
  split
  · have hdelivered : ∀ e, SignalsLaw (deliver e s.goodHeader.handOn).2 := fun e =>
      hhanded.of_notice (hnotice e _ hhanded.notice) (hd e _) hP
    exact (hdelivered _).of_others (State.countCell_changes _ _ _) (by decide)
  · exact hhanded.of_others (State.countCell_changes _ _ _) (by decide)

/-- A cell that its length or its operands turn away as a runt, and is else taken. -/
theorem SignalsLaw.cell (h : SignalsLaw s) {fits : State → Bool} {f : State → State} (hf : s.link.clockPresent = true → SignalsLaw (f s)) :
    SignalsLaw (s.whenReceiving fun s => if fits s then f s else s.discardCell .runt) := by
  refine h.whenReceiving fun hpresent => ?_
  split
  · exact hf hpresent
  · exact ⟨h.notice.discardCell _, h.link.discardCell hpresent _⟩

theorem SignalsLaw.reset (h : SignalsLaw s) (i : Fin 32) : SignalsLaw (State.whenReceiving (fun s =>
    let s := s.arrive i (fun _ => i == 0) fun _ s => (true, s)
    if i = 0 then s.tetherReset else s) s) := by
  refine h.whenReceiving fun hpresent => ?_
  have harrives : SignalsLaw (s.arrive i (fun _ => i == 0) fun _ s => (true, s)) :=
    h.arrive (P := []) hpresent (fun _ _ hu => hu) (fun _ u => .refl _ u) (by simp)
  dsimp only
  split
  · exact ⟨noticeLaw_tetherReset _, harrives.link.tetherReset⟩
  · exact harrives

/-- Every command keeps the laws. -/
theorem SignalsLaw.exec (h : SignalsLaw s) {c : Instr} (ht : exec c s = .next t) : SignalsLaw t := by
  have hu := h.caughtUp
  have hturn : ∀ {f : State → State}, s.inTurn f = .next t → SignalsLaw (f s.caughtUp) → SignalsLaw t := fun ht hf =>
    Host.Outcome.next.inj ht ▸ hf
  cases hact : serviceAct c with
  | some act => exact Host.Outcome.next.inj ((exec_of_serviceAct hact s).symm.trans ht) ▸ h.service hact
  | none =>
    cases c
    all_goals simp only [serviceAct, reduceCtorEq] at hact
    case powerOnReset => exact Host.Outcome.next.inj ht ▸ ⟨noticeLaw_powerOnReset s, linkLaw_powerOnReset s⟩
    case reset i => exact hturn ht (hu.reset i)
    case holdExpiry => exact hturn ht (hu.timed _ fun _ hrun => ⟨hrun.notice.holdExpires, hrun.link.holdExpires⟩)
    case clockAbsent cut => exact hturn ht ⟨hu.notice.clockStops cut, hu.link.clockStops cut⟩
    case clockReturn => exact hturn ht ⟨hu.notice.clockReturns, hu.link.clockReturns⟩
    case clockLossExpiry => exact hturn ht ⟨hu.notice.clockLossExpires, hu.link.clockLossExpires⟩
    case crystalAbsent => exact hturn ht ⟨hu.notice.crystalStops, hu.link.crystalStops⟩
    case crystalReturn => exact hturn ht ⟨hu.notice.setClock rfl, hu.link.crystalReturns⟩
    case crystalLossExpiry => exact hturn ht ⟨hu.notice.crystalLossExpires, hu.link.crystalLossExpires⟩
    case cellDiscarded framed => exact hturn ht ⟨hu.notice.discardFramed framed, hu.link.discardFramed framed⟩
    case fill => exact hturn ht (hu.whenReceiving hu.goodHeader)
    case picOpen =>
      exact hturn ht (hu.whenReceiving fun hpresent =>
        hu.arrive hpresent (fun _ _ h => h.openFrame _ _ _) (fun _ u => u.openFrame_changes _ _ _) (by decide))
    case picBand =>
      exact hturn ht (hu.cell fun hpresent => hu.arrive hpresent
        (fun _ u h => h.of_changes (u.acceptBand_changes _ _ _ _) (by decide)) (fun _ u => u.acceptBand_changes _ _ _ _) (by decide))
    case picClose =>
      exact hturn ht (hu.whenReceiving fun hpresent =>
        hu.arrive hpresent (fun _ _ h => h.closeFrame _) (fun _ u => u.closeFrame_changes _) (by decide))
    case bandWriteComplete i => exact hturn ht (hu.of_notice (hu.notice.completeWrite i) (State.completeWrite_changes i _) (by decide))
    case sound =>
      exact hturn ht (hu.cell fun hpresent =>
        hu.arrive hpresent (fun _ _ h => h.takeSound _ _) (fun _ u => u.takeSound_changes _ _) (by decide))
    case ask =>
      exact hturn ht (hu.cell fun hpresent =>
        hu.arrive hpresent (fun _ _ h => h.takeAsk _) (fun _ u => u.takeAsk_changes _) (by decide))
    case scanTrigger g => exact hturn ht (hu.timed_of_notice (fun _ h => h.timerTrigger g) (State.timerTrigger_changes g) (by decide))
    case burstComplete raw => exact hturn ht (hu.timed_of_notice (fun _ h => h.burstDone raw) (State.burstDone_changes raw) (by decide))
    case conversionComplete raw =>
      exact hturn ht (hu.timed_of_notice (fun _ h => h.conversionDone raw) (State.conversionDone_changes raw) (by decide))
    case ageExpiry => exact hturn ht (hu.timed _ fun u hrun => hrun.of_others u.ageHead_changes (by decide))
    case frameLatch => exact hturn ht (hu.timed_of_notice (fun _ h => h.frameLatch) State.frameLatch_changes (by decide))
    case panelReady e => exact hturn ht (hu.timed_of_notice (fun _ h => h.panelOn e) (State.panelOn_changes e) (by decide))
    case powerDownComplete e => exact hturn ht (hu.timed _ fun u hrun => hrun.of_others (u.panelDown_changes e) (by decide))
    case outputTick => exact hturn ht (hu.timed_of_notice (fun _ h => h.outputTick) State.outputTick_changes (by decide))
    case slipCheck =>
      refine hturn ht ?_
      show SignalsLaw (if s.caughtUp.sound.slipDue then s.caughtUp.slipCheck else s.caughtUp)
      split
      · exact hu.of_others (State.slipCheck_changes _) (by decide)
      · exact hu
    case microphoneSample raw => exact hturn ht (hu.timed_of_notice (fun _ h => h.microphone raw) (State.microphone_changes raw) (by decide))
    case stanceCheck => exact hturn ht (hu.timed_of_notice (fun _ h => h.stanceCheck) State.stanceCheck_changes (by decide))
    case cellBoundary => exact hturn ht ⟨hu.notice.cellBoundary, hu.link.cellBoundary⟩

theorem SignalsLaw.step (h : SignalsLaw s) (ht : step s = .next t) : SignalsLaw t := by
  unfold Machine.step at ht
  split at ht
  next c rest _ =>
    have hst : ChangesOnly [.pending] s { s with pending := rest } := by
      intro p hp
      cases p <;> simp_all [Part.same]
    exact (h.of_others hst (by decide)).exec ht
  next =>
    unfold State.ownStep at ht
    split at ht
    · exact h.exec ht
    · exact Host.Outcome.next.inj ht ▸ ⟨h.notice.elapse 1, h.link.elapse 1⟩

theorem DeviceLaw.signals (h : DeviceLaw s) : SignalsLaw s := by
  obtain ⟨-, -, -, hnotice, -, -, -, -, hlink, -⟩ := h
  exact ⟨hnotice, hlink⟩

end
end Sys2Proof.Machine

open Sys2Proof Sys2Proof.Machine

/-- Settles O6: what raises a kind settles the slot with it, what brings a level condition about raises its kind, and the link's runs and
timers are moved together with its state. -/
theorem noticeAndLinkLawKept : Obligations.NoticeAndLinkLawKept := fun _ _ hs hstep =>
  have h := hs.signals.step hstep
  ⟨h.notice, h.link⟩
end

section
namespace Sys2Proof.Machine

/-- The front of the queue is the machine's input: a step takes it off and the part's own run waits. -/
theorem step_of_pending_cons {c : Instr} {rest : List Instr} {s : State} (hpending : s.pending = c :: rest) :
    step s = exec c { s with pending := rest } := by
  rw [step, hpending]

end Sys2Proof.Machine

open Sys2Proof Sys2Proof.Machine

/-- Settles O1: the queue's front decides the step's branch. -/
theorem stepRunsFrontCommand : Obligations.StepRunsFrontCommand := fun _ _ _ hpending => step_of_pending_cons hpending
end
